-- ==== Sys2Proof/Word.lean ====
section
/-! DEFINITION. The two bit-vector types of the VN24 model: the byte of the dike line, of the
configuration image and of the maintenance UART, and the 16-bit word of the CRC. Every figure the manual
counts with (levels, discharges, powers, ages, counters) is a `Nat` or an `Int`. -/

namespace Sys2Proof

/-- One byte as it stands on the dike line, in the image or on the UART. -/
abbrev Byte := BitVec 8

/-- The register of the CRC-16. -/
abbrev Word16 := BitVec 16

end Sys2Proof
end

