-- ==== Sys2Proof/Config.lean ====
section
/-! DEFINITION. What the manual fixes once for every VN24 (periods, limits, codes), and the free values:
the points the manual leaves open. A free value is an `opaque` constant with no body, so that no proof can
see what it is. -/

namespace Sys2Proof.Config

/-! ## Figures the manual prints -/

/-- Period of the acquisition scan timer, ms (R1). -/
def scanPeriod : Nat := 100
/-- Length of the filter window and of a recovery run (R5, R9). -/
def windowSize : Nat := 8
/-- The inputs that a scan converts, AIN0 to AIN6 (R1). -/
def inputs : Nat := 7
/-- Third consecutive bad conversion (R6, R7, R13). -/
def badLimit : Nat := 3
/-- Hold count at which a HELD level input becomes SUBSTITUTED (R8). -/
def holdLimit : Nat := 300
/-- The level that marks a stage or a level as invalid in a STAGE (R10, R12, R59). -/
def invalidLevel : Int := -32768
/-- Period of the peer view's ageing timer, ms (R63). -/
def ageingPeriod : Nat := 100
/-- Period of the allocation timer, ms (R79). -/
def allocationPeriod : Nat := 1000
/-- Period of the slew timer, ms (R112). -/
def slewPeriod : Nat := 100
/-- The LINE_FAULT timer, ms (R25). -/
def lineFaultPeriod : Nat := 30000
/-- The spacing timer of prompt reports, ms (R52). -/
def spacingPeriod : Nat := 250
/-- The power-up delay, ms (R172). -/
def powerUpDelay : Nat := 64
/-- Largest value of a counter of the line port and of its seconds count (R33). -/
def counterMax : Nat := 65535
/-- Consecutive losses that lead to LINE_FAULT (R23). -/
def lossLimit : Nat := 16
/-- The idle gap in bit times (R21). -/
def idleGap : Nat := 14
/-- Bit times of one slot (R21). -/
def slotLength : Nat := 4
/-- Bit times of one turn of the wheel (R21). -/
def wheelTurn : Nat := 96
/-- Station numbers run from 1 to 24 (R29, R58). -/
def stations : Nat := 24
/-- The largest discharge figure stored from a peer's report (R59). -/
def peerFigureMax : Nat := 16000
/-- The limit at which A_full and P_feed are read (R72, R121). -/
def blockFigureMax : Nat := 60000
/-- The largest speed reference (R112, R140). -/
def speedMax : Nat := 1022
/-- The denominator of the speed output's duty (R140). -/
def dutyBase : Nat := 1023
/-- The lockout clears this far above the dry-run level, mm (R115). -/
def lockoutBand : Int := 200
/-- Urgency of a station whose polder input is degraded (R84). -/
def degradedUrgency : Nat := 500
/-- Characters of the maintenance line buffer (R184). -/
def lineBufferSize : Nat := 64
/-- Bytes of the configuration image (R176). -/
def imageSize : Nat := 128

/-! ## Free values (the manual leaves them open) -/

/-- Whether CR ignores a line that holds no character but spaces and whose bad-line mark is set. The two rows of
R184's table overlap there (log entry 12). -/
opaque blankBadLineIgnored : Bool

/-- Whether an event that falls together with a fault latch is taken before the latch: R148, R150, R151 and R165 let either be
taken first (log entry 33). Arguments: channel number and working current. -/
opaque latchWaits : Nat → Nat → Bool

/-- The names of the nine level-input fields at the end of a STATUS response: R186 names the figures
and gives them no field name (log entry 13). First argument 0 polder, 1 sump, 2 river; second argument 0
state, 1 working value, 2 last loop current. -/
opaque levelFieldName : Nat → Nat → String

/-- How an empty list is written in a response; R185 gives lists and absent figures only (log entry 13). -/
opaque emptyListText : String

end Sys2Proof.Config
end

