-- ==== Sys2Proof/Syntax.lean ====
section
/-! DEFINITION. The commands of the VN24: one constructor of `Instr` for each row of the opcode table, with
what the outside world brings to that step as its operands (a measured current, a received frame, strap
readings). The table gives no row any field, so the operands are the model's reading of the rules (log
entry 1). -/

namespace Sys2Proof

/-- A pump channel, P1 to P4. -/
inductive Chan where
  | p1 | p2 | p3 | p4
  deriving DecidableEq, Repr

/-- One value for each of the four pump channels. -/
structure Quad (α : Type) where
  p1 : α
  p2 : α
  p3 : α
  p4 : α
  deriving DecidableEq, Repr

/-- The loop inputs AIN0 to AIN6: three levels and the motor current of each channel. -/
inductive Ain where
  | polder | sump | river
  | current (k : Chan)
  deriving DecidableEq, Repr

/-- The two selector contacts of one channel, as read (R138). -/
structure Contacts where
  auto : Bool
  hand : Bool
  deriving DecidableEq, Repr

/-- One byte as a receiver samples it: its data bits, and whether its stop bit was recessive (R19). -/
structure RxByte where
  data   : Byte
  stopOk : Bool
  deriving DecidableEq, Repr

/-- A received frame: the first byte as sampled, and the bytes that followed it without a gap of more
than 2 bit times (R20). A frame has a first byte, because it begins at a start bit. -/
structure RxFrame where
  first : RxByte
  rest  : List RxByte
  deriving DecidableEq, Repr

/-- The strap pins: STN4 to STN0 (STN4 most significant), CSRC1 and CSRC0 (CSRC1 most significant), R175. -/
structure Straps where
  stn  : BitVec 5
  csrc : BitVec 2
  deriving DecidableEq, Repr

/-- The commands of the block, one constructor per row of the opcode table. -/
inductive Instr where
  /-- POWER_ON (R170). -/
  | powerOn
  /-- BROWN_OUT (R170). -/
  | brownOut
  /-- EXTERNAL_RESET (R170). -/
  | externalReset
  /-- RESET_RELEASE (R172). -/
  | resetRelease
  /-- POWER_UP_DELAY_EXPIRY (R172). -/
  | powerUpDelayExpiry
  /-- CRYSTAL_START (R173); the straps as CONFIG_LOAD samples them (R175). -/
  | crystalStart (straps : Straps)
  /-- CLOCK_START_WINDOW_EXPIRY (R173); the straps as CONFIG_LOAD samples them (R175). -/
  | clockStartWindowExpiry (straps : Straps)
  /-- CLOCK_MONITOR_FALLBACK (R174). -/
  | clockMonitorFallback
  /-- SERIAL_MEMORY_READ_END (R176); the levels that data in showed at the clocks after the address, in order. -/
  | serialMemoryReadEnd (dataIn : List Bool)
  /-- SELFTEST_END (R35); the bytes the loop returned, in order, up to the end of the test. -/
  | selftestEnd (received : List RxByte)
  /-- RECEIVER_SYNC (R38). -/
  | receiverSync
  /-- SCAN_TIMER_EXPIRY (R1, R138); the selector contacts as sampled. -/
  | scanTimerExpiry (contacts : Quad Contacts)
  /-- CONVERSION_END (R2); the input and its loop current in microamperes. -/
  | conversionEnd (input : Ain) (current : Nat)
  /-- SCAN_COMPLETION (R1). -/
  | scanCompletion
  /-- FAULT_RESET_SAMPLE (R164); the level read at the fault-reset input. -/
  | faultResetSample (active : Bool)
  /-- SLOT_START (R22); the idle time in bit times, and whether the line is sampled dominant. -/
  | slotStart (idle : Nat) (dominant : Bool)
  /-- CONTENTION_LOSS (R23). -/
  | contentionLoss
  /-- DRIVE_FAILURE (R25); the frame being received at that moment, if any. -/
  | driveFailure (partialFrame : Option RxFrame)
  /-- STUCK_LINE (R25); the frame being received at that moment, if any. -/
  | stuckLine (partialFrame : Option RxFrame)
  /-- LINE_FAULT_TIMER_EXPIRY (R26); whether the line is in a dominant run of more than 20 bit times. -/
  | lineFaultTimerExpiry (stuck : Bool)
  /-- TRANSMISSION_COMPLETE (R24). -/
  | transmissionComplete
  /-- STAGE_REPORT_RECEIVED (R60); the frame as it arrived. -/
  | stageReportReceived (frame : RxFrame)
  /-- START_NOTICE_RECEIVED (R62); the frame as it arrived. -/
  | startNoticeReceived (frame : RxFrame)
  /-- QUIT_NOTICE_RECEIVED (R61); the frame as it arrived. -/
  | quitNoticeReceived (frame : RxFrame)
  /-- BAD_FRAME (R31); the frame as it arrived. -/
  | badFrame (frame : RxFrame)
  /-- SECONDS_TICK (R33). -/
  | secondsTick
  /-- LISTEN_TIMER_EXPIRY (R49). -/
  | listenTimerExpiry
  /-- REPORT_TIMER_EXPIRY (R50). -/
  | reportTimerExpiry
  /-- SPACING_TIMER_EXPIRY (R52). -/
  | spacingTimerExpiry
  /-- AGEING_TIMER_EXPIRY (R63). -/
  | ageingTimerExpiry
  /-- ALLOCATION_TIMER_EXPIRY (R81). -/
  | allocationTimerExpiry
  /-- ALLOCATION_COMPLETION (R81). -/
  | allocationCompletion
  /-- HOLD_OFF_EXPIRY (R129). -/
  | holdOffExpiry
  /-- SLEW_TIMER_EXPIRY (R112). -/
  | slewTimerExpiry
  /-- START_WINDOW_EXPIRY (R148) of one channel. -/
  | startWindowExpiry (k : Chan)
  /-- REST_TIMER_EXPIRY (R144) of one channel. -/
  | restTimerExpiry (k : Chan)
  /-- CHARACTER_RECEIVED (R184); the character, and whether its stop bit was low. -/
  | characterReceived (c : Byte) (stopLow : Bool)
  /-- RESPONSE_END (R184). -/
  | responseEnd
  /-- STATUS (R186). -/
  | status
  /-- VIEW n (R186). -/
  | view (n : Nat)
  /-- PUMP k (R186). -/
  | pump (k : Nat)
  /-- LINE (R186). -/
  | line
  /-- CAUSE (R186). -/
  | cause
  /-- CLEAR FAULTS (R187). -/
  | clearFaults
  /-- CLEAR LINE (R33, R187). -/
  | clearLine
  /-- LEAVE (R54, R187). -/
  | leave
  /-- REJOIN (R57, R187). -/
  | rejoin
  /-- LOAD o b1 b2 ... (R179, R188). -/
  | load (offset : Nat) (bytes : List Byte)
  /-- LOAD END (R179, R188). -/
  | loadEnd
  /-- BROWN_OUT_END (R172). -/
  | brownOutEnd
  deriving DecidableEq, Repr

end Sys2Proof
end

