-- ==== Sys2Proof/WellFormed.lean ====
section
/-! DEFINITION. Which operands the hardware can present. The types already bound the channels, the inputs, the
straps and the bytes; the checks below bound the rest. `exec` gives every command a meaning, well formed or
not: no check stands between a command and its effect. -/

namespace Sys2Proof

/-- A received frame holds at most 261 bytes: the port drops the rest (R20). -/
def RxFrame.wf (f : RxFrame) : Bool := f.rest.length ≤ 260

/-- The operand checks, one per operand whose type is wider than what the part can meet. -/
def Instr.wf : Instr → Bool
  | .conversionEnd _ current => current ≤ 25000                 -- R2
  | .serialMemoryReadEnd dataIn => dataIn.length == 8 * Config.imageSize   -- R176
  | .selftestEnd received => 1 ≤ received.length && received.length ≤ 120   -- R34
  | .slotStart idle _ => Config.idleGap ≤ idle                  -- R21
  | .driveFailure (some f) => f.wf
  | .stuckLine (some f) => f.wf
  | .stageReportReceived f => f.wf
  | .startNoticeReceived f => f.wf
  | .quitNoticeReceived f => f.wf
  | .badFrame f => f.wf
  | .load _ bytes => 1 ≤ bytes.length && bytes.length ≤ 16      -- R188
  | .driveFailure none | .stuckLine none
  | .powerOn | .brownOut | .externalReset | .resetRelease | .powerUpDelayExpiry | .crystalStart _
  | .clockStartWindowExpiry _ | .clockMonitorFallback | .receiverSync | .scanTimerExpiry _ | .scanCompletion
  | .faultResetSample _ | .contentionLoss | .lineFaultTimerExpiry _ | .transmissionComplete | .secondsTick
  | .listenTimerExpiry | .reportTimerExpiry | .spacingTimerExpiry | .ageingTimerExpiry | .allocationTimerExpiry
  | .allocationCompletion | .holdOffExpiry | .slewTimerExpiry | .startWindowExpiry _ | .restTimerExpiry _
  | .characterReceived _ _ | .responseEnd | .status | .view _ | .pump _ | .line | .cause | .clearFaults
  | .clearLine | .leave | .rejoin | .loadEnd | .brownOutEnd => true

end Sys2Proof
end

