-- ==== Sys2Proof/Decode.lean ====
section
/-! DEFINITION. The opcode table gives no row of this block any bits: its rows are events and text requests,
not words. No word spells a command, so the decoder answers `none` on every word. -/

namespace Sys2Proof

/-- The command a word spells by the table's bits: none, because no row of the table has bits. -/
def decodeTableWord (_nbits _w : Nat) : Option Instr := none

end Sys2Proof
end

