-- ==== Sys2Proof/Machine/State.lean ====
section
/-! DEFINITION. The state of the VN24, block by block as the manual owns it, as plain data; the reasons a step
can stop; and the state after reset. -/

namespace Sys2Proof.Machine

/-- A timer: `none` while stopped, `some ms` while it runs, with the duration it was started for. The model
holds no remaining time: the expiry is a command (log entry 2). -/
abbrev Timer := Option Nat

/-! ## Start-up controller (chapter 10) -/

/-- The start step (R169). -/
inductive StartStep where
  | powerup | clockstart | configLoad | halted | configWait | selftest | handedOver
  deriving DecidableEq, Repr

/-- The clock state once decided (R173). -/
inductive ClockState where
  | crystal | fallback
  deriving DecidableEq, Repr

/-- The reset kinds (R170, R171). -/
inductive ResetCause where
  | powerOn | brownOut | external
  deriving DecidableEq, Repr

/-- The power-up delay timer (R172). -/
inductive DelayTimer where
  | stopped | running | ended
  deriving DecidableEq, Repr

/-- The failure reasons of R177, and NO_IMAGE (R175). -/
inductive FailureReason where
  | imageCrc | version | station | stages | levels | scaling | noPump | noImage
  deriving DecidableEq, Repr

/-- The low and high values that scale one level input (R3). -/
structure LevelScale where
  lo : Int
  hi : Int
  deriving DecidableEq, Repr

/-- One pump block of the accepted configuration, clamped (R180, R190). -/
structure PumpBlock where
  fitted   : Bool
  qr       : Nat
  hr       : Nat
  hsh      : Nat
  nmin     : Nat
  power    : Nat
  fs       : Nat
  ioc      : Nat
  istart   : Nat
  iul      : Nat
  deglitch : Nat
  deriving DecidableEq, Repr

/-- The accepted configuration: the image's figures as clamped, and the digest (R169, R180, R181, R190). -/
structure StationConfig where
  station    : Nat
  bitRate    : Nat
  period     : Nat
  aFull      : Nat
  sFree      : Int
  sClose     : Int
  pFeed      : Nat
  tHold      : Nat
  tStart     : Nat
  target     : Int
  alarm      : Int
  dryRun     : Int
  sumpMargin : Nat
  qAssured   : Nat
  slewStep   : Nat
  tRest      : Nat
  polder     : LevelScale
  sump       : LevelScale
  river      : LevelScale
  pumps      : Quad PumpBlock
  digest     : Nat
  deriving DecidableEq, Repr

/-- The start-up controller (R169), with the reset causes asserted at present (R170) and the crystal
enable and clock monitor of R173 and R174. -/
structure Controller where
  step        : StartStep
  resetHeld   : Bool
  brownOut    : Bool
  external    : Bool
  cause       : ResetCause
  warmCount   : Nat
  delay       : DelayTimer
  clock       : Option ClockState
  crystalOn   : Bool
  monitor     : Bool
  station     : Option Nat
  source      : Option Nat
  image       : Option (List Byte)
  reason      : Option FailureReason
  config      : Option StationConfig
  deriving DecidableEq, Repr

/-! ## Acquisition unit (chapter 1) -/

/-- Pump channel states (R137). `inLocal` is the manual's LOCAL. -/
inductive ChanState where
  | disabled | idle | notice | starting | running | stopping | resting | inLocal | fault
  deriving DecidableEq, Repr

/-- The states of a level input (R6 to R9). -/
inductive LevelState where
  | init | good | suspect | held | substituted
  deriving DecidableEq, Repr

/-- The states of a current input (R13). -/
inductive CurrentState where
  | init | good | suspect | lost
  deriving DecidableEq, Repr

/-- What the unit holds for a level input: the window of clamped loop currents, oldest first, the consecutive
bad count, the recovery run (its length is the recovery count), the held value, the hold count and
the last loop current. -/
structure LevelInput where
  state     : LevelState
  window    : List Nat
  bad       : Nat
  run       : List Nat
  held      : Option Int
  holdCount : Nat
  lastLoop  : Option Nat
  deriving DecidableEq, Repr

/-- What the unit holds for a current input (R13). -/
structure CurrentInput where
  state    : CurrentState
  window   : List Nat
  bad      : Nat
  run      : List Nat
  lastLoop : Option Nat
  deriving DecidableEq, Repr

/-- A level input as published at a scan completion: state, working value handed to users (R10 to R12), last
loop current. -/
structure PubLevel where
  state    : LevelState
  working  : Option Int
  lastLoop : Option Nat
  deriving DecidableEq, Repr

/-- A current input as published at a scan completion. -/
structure PubCurrent where
  state    : CurrentState
  working  : Option Nat
  lastLoop : Option Nat
  deriving DecidableEq, Repr

/-- The figures published at the last scan completion (R1). -/
structure Published where
  polder   : PubLevel
  sump     : PubLevel
  river    : PubLevel
  degraded : Bool
  head     : Option Nat
  currents : Quad PubCurrent
  deriving DecidableEq, Repr

/-- The acquisition unit. `scan` is the scan in progress, with the number of inputs it has converted, 0 to 7 (R1). -/
structure Acquisition where
  scanTimer : Timer
  scan      : Option Nat
  polder    : LevelInput
  sump      : LevelInput
  river     : LevelInput
  currents  : Quad CurrentInput
  pub       : Published
  deriving DecidableEq, Repr

/-! ## Frames and the line port (chapters 2, 3 and 11) -/

/-- The six report flags of a STAGE (R43, R189). -/
structure ReportFlags where
  restarted : Bool
  degraded  : Bool
  isolated  : Bool
  dry       : Bool
  leaving   : Bool
  blind     : Bool
  deriving DecidableEq, Repr

/-- The payload of a STAGE report (R42, R189). -/
structure StagePayload where
  number    : Nat
  flags     : ReportFlags
  polder    : Int
  river     : Int
  urgency   : Nat
  demand    : Nat
  cav       : Nat
  eAuto     : Nat
  eHand     : Nat
  runPower  : Nat
  instPower : Nat
  share     : Nat
  digest    : Nat
  deriving DecidableEq, Repr

/-- The payload of a START notice (R45, R189). -/
structure StartPayload where
  channel : Nat
  urgency : Nat
  power   : Nat
  number  : Nat
  deriving DecidableEq, Repr

/-- The payload of a QUIT notice (R46, R189). -/
structure QuitPayload where
  reason : Nat
  number : Nat
  deriving DecidableEq, Repr

/-- A frame of one of the three kinds. -/
inductive Frame where
  | stage (p : StagePayload)
  | start (p : StartPayload)
  | quit (p : QuitPayload)
  deriving DecidableEq, Repr

/-- The error kinds of the reception checks (R29). -/
inductive ErrorKind where
  | framing | headerCheck | sender | kind | length | payloadCrc
  deriving DecidableEq, Repr

/-- The port states. -/
inductive PortState where
  | off | selftest | listen | active | lineFault | mute | dead
  deriving DecidableEq, Repr

/-- The transmit queue: at most one frame of each kind (R27). -/
structure TxQueue where
  start : Option StartPayload
  stage : Option StagePayload
  quit  : Option QuitPayload
  deriving DecidableEq, Repr

/-- The frame in transmission, and whether its block has withdrawn it (R27). -/
structure TxFrame where
  frame     : Frame
  withdrawn : Bool
  deriving DecidableEq, Repr

/-- The first-error record (R31). -/
structure FirstError where
  error  : ErrorKind
  sender : Option Nat
  kind   : Nat
  time   : Nat
  deriving DecidableEq, Repr

/-- The self-test record (R35). -/
structure SelfTestRecord where
  frame    : Nat
  byte     : Nat
  expected : Nat
  received : Nat
  deriving DecidableEq, Repr

/-- The line port. `lastSender = none` is "unknown". `idle = none` while the idle time is not counted (before the
receiver starts, and during a frame). `sync` is set while the receiver waits for 14 recessive bit times
(R38). -/
structure Port where
  state          : PortState
  bitRate        : Option Nat
  lastSender     : Option Nat
  idle           : Option Nat
  sync           : Bool
  queue          : TxQueue
  tx             : Option TxFrame
  lossCount      : Nat
  lineFaultTimer : Timer
  good           : Nat
  bad            : Nat
  losses         : Nat
  lineFaults     : Nat
  firstError     : Option FirstError
  selfTest       : Option SelfTestRecord
  seconds        : Nat
  muteHeld       : Bool
  deriving DecidableEq, Repr

/-! ## Report scheduler and peer view (chapter 3) -/

/-- The coordination states. -/
inductive CoordState where
  | joining | coordinating | leaving | left
  deriving DecidableEq, Repr

/-- The side of S_close on which the last usable own river stage lay (R51). -/
inductive RiverSide where
  | below | atOrAbove
  deriving DecidableEq, Repr

/-- The report scheduler (R47). -/
structure Scheduler where
  coord        : Option CoordState
  listenTimer  : Timer
  reportTimer  : Timer
  spacingTimer : Timer
  prompt       : Bool
  counter      : Nat
  restart      : Bool
  riverSide    : Option RiverSide
  quitOffered  : Bool
  deriving DecidableEq, Repr

/-- The status of a peer record (R58). -/
inductive RecordStatus where
  | absent | self | fresh | aged | lost | quit
  deriving DecidableEq, Repr

/-- A pending start (R58, R62). `remaining` counts 100 ms units. -/
structure PendingStart where
  channel   : Nat
  power     : Nat
  urgency   : Nat
  number    : Nat
  remaining : Nat
  yielded   : Bool
  deriving DecidableEq, Repr

/-- A record of the peer view (R58). -/
structure PeerRecord where
  status     : RecordStatus
  mismatch   : Bool
  report     : Option StagePayload
  lastNumber : Nat
  age        : Nat
  missed     : Nat
  pending    : Option PendingStart
  deriving DecidableEq, Repr

/-- The peer view: the record of station n stands at place n - 1; and the ageing timer. -/
structure PeerView where
  records     : List PeerRecord
  ageingTimer : Timer
  deriving DecidableEq, Repr

/-! ## Allowance and allocation units (chapters 4 and 5) -/

/-- The allowance unit (R66). -/
structure Allowance where
  stage      : Option Int
  known      : Bool
  blind      : Bool
  allowance  : Option Nat
  fixed      : Option Nat
  net        : Option Nat
  candidates : Nat
  deriving DecidableEq, Repr

/-- Pump channel modes (R139). -/
inductive Mode where
  | off | hand | auto
  deriving DecidableEq, Repr

/-- What the snapshot holds of one channel: fitted, mode, state and Qmax (R81). -/
structure SnapChan where
  fitted : Bool
  mode   : Option Mode
  state  : Option ChanState
  qmax   : Nat
  deriving DecidableEq, Repr

/-- The snapshot of R67 and R81. -/
structure Snapshot where
  records  : List PeerRecord
  port     : PortState
  coord    : Option CoordState
  river    : Option Int
  level    : Option Int
  degraded : Bool
  eHand    : Nat
  chans    : Quad SnapChan
  lockout  : Bool
  deriving DecidableEq, Repr

/-- The allocation unit (R79). A computation in progress is held as its snapshot. -/
structure Allocation where
  timer    : Timer
  snapshot : Option Snapshot
  urgency  : Nat
  cav      : Nat
  demand   : Nat
  share    : Nat
  qTgt     : Nat
  isolated : Bool
  deriving DecidableEq, Repr

/-! ## Dispatch unit and start arbiter (chapters 6 and 7) -/

/-- One entry of the discharge table (R101). -/
structure Discharge where
  qmax : Nat
  qmin : Nat
  deriving DecidableEq, Repr

/-- The dispatch unit (R99). The rotation list holds channel numbers as the retention cells do, so that a corrupted
list can be said (R105). -/
structure Dispatch where
  rotation  : Option (List Nat)
  table     : Option (Quad (Option Discharge))
  crun      : Nat
  nt        : Option Nat
  lockout   : Bool
  slewTimer : Timer
  hand      : Quad Bool
  eAuto     : Nat
  eHand     : Nat
  runPower  : Nat
  instPower : Option Nat
  deriving DecidableEq, Repr

/-- The phase of the own notice (R119). -/
inductive NoticePhase where
  | queued | onLine | holding
  deriving DecidableEq, Repr

/-- The own notice (R119). -/
structure OwnNotice where
  channel : Chan
  urgency : Nat
  power   : Nat
  number  : Nat
  phase   : NoticePhase
  deriving DecidableEq, Repr

/-- The start arbiter (R119). -/
structure Arbiter where
  notice  : Option OwnNotice
  holdOff : Timer
  counter : Nat
  deriving DecidableEq, Repr

/-! ## Pump channels and motor supervision (chapters 8 and 9) -/

/-- The four combinations of the selector inputs (R138). -/
inductive Combination where
  | neither | autoOnly | handOnly | both
  deriving DecidableEq, Repr

/-- A pump channel (R137). `sample` is the newest selector sample and `sample2` the one before it. `mode` is `none` for a
channel that the accepted configuration does not fit. -/
structure Channel where
  sample      : Option Combination
  sample2     : Option Combination
  combination : Combination
  mode        : Option Mode
  selector    : Bool
  state       : Option ChanState
  run         : Bool
  reference   : Nat
  window      : Timer
  rest        : Timer
  deriving DecidableEq, Repr

/-- Fault kinds (R157). -/
inductive FaultKind where
  | overcurrent | underload | noStart
  deriving DecidableEq, Repr

/-- The supervision items of one channel (R157). -/
structure Watch where
  overcurrent : Nat
  startLimit  : Nat
  underload   : Nat
  latch       : Option FaultKind
  deriving DecidableEq, Repr

/-- Motor supervision (R157): the four channels, the last five fault-reset samples (newest first) and the debounced
level, `none` while not yet formed. `offered` holds the latches that a count has offered to a channel and that another event of
the same instant reaches first (R162; the model's own field, log entry 33). The alarm cause set and the station alarm output are computed views
(`alarmCauses`, `alarmOutput` in Machine/Flags.lean). -/
structure Supervision where
  watch   : Quad Watch
  offered : Quad (Option FaultKind)
  samples : List Bool
  level   : Option Bool
  deriving DecidableEq, Repr

/-! ## Maintenance port (chapter 11) -/

/-- A maintenance request (R186 to R188). -/
inductive Request where
  | status
  | view (n : Nat)
  | pump (k : Nat)
  | line
  | cause
  | clearFaults
  | clearLine
  | leave
  | rejoin
  | load (offset : Nat) (bytes : List Byte)
  | loadEnd
  deriving DecidableEq, Repr

/-- A completed line: a request, or a line that is answered ERR SYNTAX (R184, R185). -/
inductive CompletedLine where
  | syntaxError
  | request (r : Request)
  deriving DecidableEq, Repr

/-- The error codes (R185). -/
inductive ErrorCode where
  | errSyntax | errState | errRange
  deriving DecidableEq, Repr

/-- The members of the alarm cause set (R166, R186). -/
inductive AlarmCause where
  | startup | halted | fault | selector | level | current | port | mismatch | blind
  deriving DecidableEq, Repr

/-- STATE of a STATUS response: the start step until the hand-over, then the coordination state. -/
inductive StationState where
  | step (x : StartStep)
  | coord (x : CoordState)
  deriving DecidableEq, Repr

/-- The fields of a STATUS response (R186). -/
structure StatusReport where
  state    : StationState
  clock    : Option ClockState
  port     : PortState
  reason   : Option FailureReason
  alarm    : Bool
  causes   : List AlarmCause
  stage    : Option Int
  blind    : Bool
  cand     : Nat
  a        : Option Nat
  f        : Option Nat
  net      : Option Nat
  urgency  : Nat
  cav      : Nat
  demand   : Nat
  share    : Nat
  qTgt     : Nat
  isolated : Bool
  nt       : Option Nat
  crun     : Nat
  dry      : Bool
  flags    : ReportFlags
  polder   : PubLevel
  sump     : PubLevel
  river    : PubLevel
  deriving DecidableEq, Repr

/-- What PUMP k reads of a fitted channel (R186). -/
structure PumpFigures where
  mode      : Option Mode
  selector  : Bool
  state     : Option ChanState
  fault     : Option FaultKind
  reference : Nat
  qmax      : Option Nat
  qmin      : Option Nat
  position  : Option Nat
  oc        : Nat
  sl        : Nat
  ul        : Nat
  deriving DecidableEq, Repr

/-- The fields of a PUMP response (R186). `fit` is absent before a configuration is accepted; `figures` is absent
unless the channel is fitted. -/
structure PumpReport where
  k       : Nat
  fit     : Option Bool
  figures : Option PumpFigures
  current : PubCurrent
  deriving DecidableEq, Repr

/-- ST of a LINE response (R186). -/
inductive SelfTestShown where
  | notYet
  | pass
  | record (r : SelfTestRecord)
  deriving DecidableEq, Repr

/-- The fields of a LINE response (R186). -/
structure LineReport where
  good       : Nat
  bad        : Nat
  losses     : Nat
  lineFaults : Nat
  firstError : Option FirstError
  selfTest   : SelfTestShown
  deriving DecidableEq, Repr

/-- The fields of a CAUSE response (R186). -/
structure CauseReport where
  cause     : ResetCause
  warmCount : Nat
  reason    : Option FailureReason
  deriving DecidableEq, Repr

/-- A response, with its fields as values; Machine/Render.lean writes it as characters (R185). -/
inductive Response where
  | ok
  | status (r : StatusReport)
  | view (n : Nat) (r : PeerRecord)
  | pump (r : PumpReport)
  | line (r : LineReport)
  | cause (r : CauseReport)
  | err (code : ErrorCode) (reason : Option FailureReason)
  deriving DecidableEq, Repr

/-- The maintenance port (R184): the line buffer, the bad-line mark, the held line and the response being sent. -/
structure Maintenance where
  buffer   : List Byte
  badLine  : Bool
  held     : Option CompletedLine
  response : Option Response
  deriving DecidableEq, Repr

/-! ## The whole state -/

/-- The state of the VN24: its twelve blocks (the pump channels as four), and the queue of commands that wait. -/
structure State where
  ctl     : Controller
  acq     : Acquisition
  port    : Port
  sched   : Scheduler
  view    : PeerView
  allow   : Allowance
  alloc   : Allocation
  disp    : Dispatch
  arb     : Arbiter
  chans   : Quad Channel
  sup     : Supervision
  maint   : Maintenance
  pending : List Instr
  deriving DecidableEq, Repr

/-- The reasons the machine stops with a fault: none. The manual gives every command of the table an effect, and no
rule of it stops the part short of a reset (safe: nothing is cut off). -/
inductive Fault where
  deriving DecidableEq, Repr

/-- The reasons a command is refused. -/
inductive Refusal where
  /-- Raised by `exec` for a row without a meaning; no arm raises it now. Safe: the model stops. -/
  | notModelled (mnemonic : String)
  deriving DecidableEq, Repr

/-! ## Values after reset -/

/-- A controller just released from a POWER_ON reset (R169, R172). -/
def Controller.reset : Controller :=
  { step := .powerup, resetHeld := false, brownOut := false, external := false, cause := .powerOn,
    warmCount := 0, delay := .running, clock := none, crystalOn := false, monitor := false,
    station := none, source := none, image := none, reason := none, config := none }

/-- A level input after any reset (R6, R17). -/
def LevelInput.reset : LevelInput :=
  { state := .init, window := [], bad := 0, run := [], held := none, holdCount := 0, lastLoop := none }

/-- A current input after any reset (R13, R17). -/
def CurrentInput.reset : CurrentInput :=
  { state := .init, window := [], bad := 0, run := [], lastLoop := none }

/-- A published level before the first scan completion (R17). -/
def PubLevel.reset : PubLevel := { state := .init, working := none, lastLoop := none }

/-- A published current before the first scan completion (R17). -/
def PubCurrent.reset : PubCurrent := { state := .init, working := none, lastLoop := none }

/-- The published figures before the first scan completion (R17); an INIT polder input is degraded (R10). -/
def Published.reset : Published :=
  { polder := .reset, sump := .reset, river := .reset, degraded := true, head := none,
    currents := ⟨.reset, .reset, .reset, .reset⟩ }

/-- The acquisition unit after any reset (R17). -/
def Acquisition.reset : Acquisition :=
  { scanTimer := none, scan := none, polder := .reset, sump := .reset, river := .reset,
    currents := ⟨.reset, .reset, .reset, .reset⟩, pub := .reset }

/-- An empty transmit queue. -/
def TxQueue.empty : TxQueue := { start := none, stage := none, quit := none }

/-- The line port after any reset (R41). -/
def Port.reset : Port :=
  { state := .off, bitRate := none, lastSender := none, idle := none, sync := false, queue := .empty,
    tx := none, lossCount := 0, lineFaultTimer := none, good := 0, bad := 0, losses := 0, lineFaults := 0,
    firstError := none, selfTest := none, seconds := 0, muteHeld := false }

/-- The report scheduler after any reset (R47). -/
def Scheduler.reset : Scheduler :=
  { coord := none, listenTimer := none, reportTimer := none, spacingTimer := none, prompt := false,
    counter := 0, restart := true, riverSide := none, quitOffered := false }

/-- A record after any reset (R58). -/
def PeerRecord.absent : PeerRecord :=
  { status := .absent, mismatch := false, report := none, lastNumber := 0, age := 0, missed := 0, pending := none }

/-- The peer view after any reset (R58). -/
def PeerView.reset : PeerView :=
  { records := List.replicate Config.stations .absent, ageingTimer := none }

/-- The allowance unit after any reset (R66). -/
def Allowance.reset : Allowance :=
  { stage := none, known := false, blind := false, allowance := none, fixed := none, net := none, candidates := 0 }

/-- The allocation unit after any reset (R79). -/
def Allocation.reset : Allocation :=
  { timer := none, snapshot := none, urgency := 0, cav := 0, demand := 0, share := 0, qTgt := 0, isolated := false }

/-- The dispatch unit after a reset, with the rotation list that the kind of reset leaves (R99). -/
def Dispatch.afterReset (rotation : Option (List Nat)) : Dispatch :=
  { rotation := rotation, table := none, crun := 0, nt := none, lockout := false, slewTimer := none,
    hand := ⟨false, false, false, false⟩, eAuto := 0, eHand := 0, runPower := 0, instPower := none }

/-- The start arbiter after any reset (R119). -/
def Arbiter.reset : Arbiter := { notice := none, holdOff := none, counter := 0 }

/-- A pump channel after any reset (R137). -/
def Channel.reset : Channel :=
  { sample := none, sample2 := none, combination := .neither, mode := some .off, selector := false, state := none,
    run := false, reference := 0, window := none, rest := none }

/-- The supervision items of a channel after any reset (R157). -/
def Watch.reset : Watch := { overcurrent := 0, startLimit := 0, underload := 0, latch := none }

/-- Motor supervision after any reset (R157). -/
def Supervision.reset : Supervision :=
  { watch := ⟨.reset, .reset, .reset, .reset⟩, offered := ⟨none, none, none, none⟩, samples := [], level := none }

/-- The maintenance port after any reset (R184). -/
def Maintenance.reset : Maintenance := { buffer := [], badLine := false, held := none, response := none }

/-- The machine at the release of a POWER_ON reset (R169): POWERUP with the power-up delay running, every block at
its reset value, no rotation list, and no command waiting. -/
def State.reset : State :=
  { ctl := .reset, acq := .reset, port := .reset, sched := .reset, view := .reset, allow := .reset,
    alloc := .reset, disp := .afterReset none, arb := .reset,
    chans := ⟨.reset, .reset, .reset, .reset⟩, sup := .reset, maint := .reset, pending := [] }

/-! ## Named updates, one per block -/

def State.setCtl (s : State) (x : Controller) : State := { s with ctl := x }
def State.setAcq (s : State) (x : Acquisition) : State := { s with acq := x }
def State.setPort (s : State) (x : Port) : State := { s with port := x }
def State.setSched (s : State) (x : Scheduler) : State := { s with sched := x }
def State.setView (s : State) (x : PeerView) : State := { s with view := x }
def State.setAllow (s : State) (x : Allowance) : State := { s with allow := x }
def State.setAlloc (s : State) (x : Allocation) : State := { s with alloc := x }
def State.setDisp (s : State) (x : Dispatch) : State := { s with disp := x }
def State.setArb (s : State) (x : Arbiter) : State := { s with arb := x }
def State.setChans (s : State) (x : Quad Channel) : State := { s with chans := x }
def State.setSup (s : State) (x : Supervision) : State := { s with sup := x }
def State.setMaint (s : State) (x : Maintenance) : State := { s with maint := x }

end Sys2Proof.Machine
end

