-- ==== Sys2Proof/Machine/Operands.lean ====
section
/-! DEFINITION. How the operands of the commands are read: channels and their numbers, a loop current and its
scaling, a selector sample, the straps, the serial memory's bytes and the bytes of the loopback test. -/

namespace Sys2Proof.Machine

/-! ## Channels -/

/-- The four channels in ascending order. -/
def allChans : List Chan := [.p1, .p2, .p3, .p4]

/-- The number of a channel, 1 to 4. -/
def chanNum : Chan → Nat
  | .p1 => 1
  | .p2 => 2
  | .p3 => 3
  | .p4 => 4

/-- The channel of a number, if it is 1 to 4. -/
def chanOfNum : Nat → Option Chan
  | 1 => some .p1
  | 2 => some .p2
  | 3 => some .p3
  | 4 => some .p4
  | _ => none

/-- The value of one channel. -/
def quadGet {α : Type} (q : Quad α) : Chan → α
  | .p1 => q.p1
  | .p2 => q.p2
  | .p3 => q.p3
  | .p4 => q.p4

/-- Replaces the value of one channel. -/
def quadSet {α : Type} (q : Quad α) (k : Chan) (x : α) : Quad α :=
  match k with
  | .p1 => { q with p1 := x }
  | .p2 => { q with p2 := x }
  | .p3 => { q with p3 := x }
  | .p4 => { q with p4 := x }

/-- Four values, one for each channel. -/
def quadOf {α : Type} (f : Chan → α) : Quad α := ⟨f .p1, f .p2, f .p3, f .p4⟩

/-- The sum of a figure over the four channels. -/
def sumChans (f : Chan → Nat) : Nat := f .p1 + f .p2 + f .p3 + f .p4

/-- Some channel meets a test. -/
def anyChan (p : Chan → Bool) : Bool := p .p1 || p .p2 || p .p3 || p .p4

/-! ## Loop currents (R2 to R5) -/

/-- The number of a loop input, AIN0 to AIN6: its place in the scan (R1). -/
def ainNum : Ain → Nat
  | .polder => 0
  | .sump => 1
  | .river => 2
  | .current k => chanNum k + 2

/-- The loop current as measured: above 25000 µA it is measured as 25000 (R2). -/
def measured (i : Nat) : Nat := min i 25000

/-- A conversion is good from 3600 to 21000 µA (R2). -/
def goodConversion (i : Nat) : Bool := 3600 ≤ i && i ≤ 21000

/-- The clamped loop current Ic of a good conversion (R2). -/
def clampLoop (i : Nat) : Nat := max 4000 (min i 20000)

/-- Clamp to the level range (R3, R11). -/
def clampLevel (v : Int) : Int := max (-9999) (min v 9999)

/-- The scaled value of a clamped loop current of a level input (R3). -/
def scaleLevel (sc : LevelScale) (ic : Nat) : Int :=
  clampLevel (sc.lo + (sc.hi - sc.lo) * ((ic : Int) - 4000) / 16000)

/-- The scaled value of a clamped loop current of a current input (R4). -/
def scaleCurrent (fs ic : Nat) : Nat := fs * (ic - 4000) / 16000

/-- Appends an entry to a window, removing the oldest when it holds eight (R5). -/
def pushWindow (w : List Nat) (ic : Nat) : List Nat :=
  if w.length < Config.windowSize then w ++ [ic] else w.drop 1 ++ [ic]

/-- The filtered value of a level input: the mean of the scaled window, rounded toward negative infinity, formed
from a full window only (R5). -/
def filteredLevel (sc : LevelScale) (w : List Nat) : Option Int :=
  if w.length = Config.windowSize then some ((w.map (scaleLevel sc)).sum / 8) else none

/-- The filtered value of a current input (R5). -/
def filteredCurrent (fs : Nat) (w : List Nat) : Option Nat :=
  if w.length = Config.windowSize then some ((w.map (scaleCurrent fs)).sum / 8) else none

/-! ## Selectors (R138, R139) -/

/-- The combination a sample reads (R138). -/
def readContacts (c : Contacts) : Combination :=
  match c.auto, c.hand with
  | true, true => .both
  | true, false => .autoOnly
  | false, true => .handOnly
  | false, false => .neither

/-- The mode of a debounced combination (R139). -/
def modeOf : Combination → Mode
  | .autoOnly => .auto
  | .handOnly => .hand
  | .neither => .off
  | .both => .off

/-- The SELECTOR flag of a debounced combination (R139). -/
def selectorOf : Combination → Bool
  | .both => true
  | _ => false

/-! ## Straps and the serial memory (R175, R176) -/

/-- The configuration sources (R175): the code 0, 1 is the maintenance port alone, 1, 0 the serial memory and then the
maintenance port, and the two others the serial memory. -/
def sourceIsPort (source : Nat) : Bool := source == 1

/-- Whether a failed image leads to CONFIG_WAIT rather than HALTED (R178). -/
def sourceWaits (source : Nat) : Bool := source == 2

/-- What the part sends on data out for the read: the command byte 0x03 and the address byte 0x00 (R176). -/
def memoryCommand : List Byte := [0x03#8, 0x00#8]

/-- The bits of bytes sent one after the other, each most significant bit first (R176). -/
def msbBits (bytes : List Byte) : List Bool :=
  bytes.flatMap fun b => [7, 6, 5, 4, 3, 2, 1, 0].map fun i => b.getLsbD i

/-- The byte of eight bits, most significant bit first (R176). -/
def byteOfBits (bits : List Bool) : Byte := BitVec.ofNat 8 (bits.foldl (fun n b => 2 * n + b.toNat) 0)

/-- As many bytes as are asked for, read from the bits of data in; a clock at which the memory drove nothing reads 1, by the
pull-up (R176; log entry 21). -/
def bytesIn : Nat → List Bool → List Byte
  | 0, _ => []
  | n + 1, bits => byteOfBits ((bits.take 8 ++ List.replicate 8 true).take 8) :: bytesIn n (bits.drop 8)

/-- The 128 bytes clocked in on data in, into image buffer bytes 0 to 127 in order (R176). -/
def clockedIn (dataIn : List Bool) : List Byte := bytesIn Config.imageSize dataIn

/-! ## The loopback self-test (R34, R35) -/

/-- The byte sent at place i (0 to 29) of self-test frame 1 to 4 (R34). -/
def selfTestByte (frame i : Nat) : Byte :=
  match frame with
  | 1 => 0x00#8
  | 2 => 0xFF#8
  | 3 => if i % 2 = 0 then 0x55#8 else 0xAA#8
  | _ => BitVec.ofNat 8 i

/-- The bytes the self-test sends, with frame and byte index (R34). -/
def selfTestSent : List (Nat × Nat × Byte) :=
  [1, 2, 3, 4].flatMap fun f => (List.range 30).map fun i => (f, i, selfTestByte f i)

/-- The end of a self-test: still running, passed, or failed with its record. -/
inductive SelfTestEnd where
  | running
  | passed
  | failed (r : SelfTestRecord)
  deriving DecidableEq, Repr

/-- Compares the bytes the loop returned with the bytes sent, in data bits and stop bit, up to the first mismatch
(R34, R35). -/
def compareSelfTest : List (Nat × Nat × Byte) → List RxByte → SelfTestEnd
  | [], _ => .passed
  | _ :: _, [] => .running
  | (f, i, b) :: sent, r :: received =>
    if r.data = b ∧ r.stopOk = true then compareSelfTest sent received
    else .failed { frame := f, byte := i, expected := b.toNat, received := r.data.toNat }

end Sys2Proof.Machine
end

