-- ==== Sys2Proof/Machine/Frames.lean ====
section
/-! DEFINITION. Frames of the dike line: the CRC-16, the byte layouts of R189, the reception checks of R29, and the
line's bits and contention (R18, R19, R22, section 2.4). -/

namespace Sys2Proof.Machine

/-! ## CRC-16 (section 2.2) -/

/-- One bit into the CRC register, polynomial x^16 + x^12 + x^5 + 1. -/
def crcBit (c : Word16) (b : Bool) : Word16 :=
  if c.msb ^^ b then (c <<< 1) ^^^ 0x1021#16 else c <<< 1

/-- One byte into the CRC register, most significant bit first. -/
def crcByte (c : Word16) (b : Byte) : Word16 :=
  [7, 6, 5, 4, 3, 2, 1, 0].foldl (fun c i => crcBit c (b.getLsbD i)) c

/-- The CRC-16 of a byte sequence: initial value 0xFFFF, no final inversion. -/
def crc16 (l : List Byte) : Word16 := l.foldl crcByte 0xFFFF#16

/-! ## Byte order (R189, R190) -/

/-- A 16-bit figure, most significant byte first. -/
def be16 (n : Nat) : List Byte := [BitVec.ofNat 8 (n / 256), BitVec.ofNat 8 n]

/-- A signed 16-bit figure in two's complement, most significant byte first. -/
def be16s (z : Int) : List Byte := be16 (z % 65536).toNat

/-- The unsigned byte at an offset. -/
def u8At (l : List Byte) (i : Nat) : Nat := (l.getD i 0#8).toNat

/-- The unsigned 16-bit figure at an offset. -/
def u16At (l : List Byte) (i : Nat) : Nat := u8At l i * 256 + u8At l (i + 1)

/-- The signed 16-bit figure at an offset. -/
def s16At (l : List Byte) (i : Nat) : Int :=
  if u16At l i < 32768 then (u16At l i : Int) else (u16At l i : Int) - 65536

/-! ## Payloads (R189) -/

/-- The flags byte of a STAGE; bits 6 and 7 are sent as 0. -/
def flagsByte (f : ReportFlags) : Byte :=
  BitVec.ofNat 8 (f.restarted.toNat + 2 * f.degraded.toNat + 4 * f.isolated.toNat + 8 * f.dry.toNat
    + 16 * f.leaving.toNat + 32 * f.blind.toNat)

/-- The flags of a flags byte; bits 6 and 7 are ignored. -/
def readFlags (b : Byte) : ReportFlags :=
  { restarted := b.getLsbD 0, degraded := b.getLsbD 1, isolated := b.getLsbD 2, dry := b.getLsbD 3,
    leaving := b.getLsbD 4, blind := b.getLsbD 5 }

/-- Kind codes (section 2.2, R189). -/
def kindCode : Frame → Nat
  | .stage _ => 0x11
  | .start _ => 0x22
  | .quit _ => 0x33

/-- The payload bytes of a frame (R189). -/
def payloadBytes : Frame → List Byte
  | .stage p =>
    [BitVec.ofNat 8 p.number, flagsByte p.flags] ++ be16s p.polder ++ be16s p.river ++ be16 p.urgency
      ++ be16 p.demand ++ be16 p.cav ++ be16 p.eAuto ++ be16 p.eHand ++ be16 p.runPower ++ be16 p.instPower
      ++ be16 p.share ++ be16 p.digest
  | .start p => [BitVec.ofNat 8 p.channel] ++ be16 p.urgency ++ be16 p.power ++ [BitVec.ofNat 8 p.number]
  | .quit p => [BitVec.ofNat 8 p.reason, BitVec.ofNat 8 p.number]

/-- The payload length of a kind. -/
def payloadLength : Frame → Nat
  | .stage _ => 24
  | .start _ => 6
  | .quit _ => 2

/-- The header check: 255 less the sum, modulo 256, of the first three header bytes. -/
def headerCheck (kind sender len : Nat) : Nat := 255 - (kind + sender + len) % 256

/-- Header and payload of a frame. -/
def frameBody (sender : Nat) (f : Frame) : List Byte :=
  [BitVec.ofNat 8 (kindCode f), BitVec.ofNat 8 sender, BitVec.ofNat 8 (payloadLength f),
    BitVec.ofNat 8 (headerCheck (kindCode f) sender (payloadLength f))] ++ payloadBytes f

/-- All bytes of a frame as sent: header, payload, CRC most significant byte first. -/
def frameBytes (sender : Nat) (f : Frame) : List Byte :=
  frameBody sender f ++ be16 (crc16 (frameBody sender f)).toNat

/-- The STAGE payload in the bytes of a frame. -/
def readStage (l : List Byte) : StagePayload :=
  { number := u8At l 4, flags := readFlags (l.getD 5 0#8), polder := s16At l 6, river := s16At l 8,
    urgency := u16At l 10, demand := u16At l 12, cav := u16At l 14, eAuto := u16At l 16, eHand := u16At l 18,
    runPower := u16At l 20, instPower := u16At l 22, share := u16At l 24, digest := u16At l 26 }

/-- The START payload in the bytes of a frame. -/
def readStart (l : List Byte) : StartPayload :=
  { channel := u8At l 4, urgency := u16At l 5, power := u16At l 7, number := u8At l 9 }

/-- The QUIT payload in the bytes of a frame. -/
def readQuit (l : List Byte) : QuitPayload := { reason := u8At l 4, number := u8At l 5 }

/-! ## Reception (R20, R29) -/

/-- All bytes of a received frame; the port keeps the first 261 (R20). -/
def rxBytes (f : RxFrame) : List RxByte := (f.first :: f.rest).take 261

/-- Four bytes have arrived and their header check holds (R20, R29). -/
def headerHolds (l : List Byte) : Bool :=
  4 ≤ l.length && u8At l 3 == headerCheck (u8At l 0) (u8At l 1) (u8At l 2)

/-- The bytes that make up the frame: with a good header the frame ends at its expected count (R20). -/
def framePart (l : List RxByte) : List RxByte :=
  if headerHolds (l.map (·.data)) then l.take (6 + u8At (l.map (·.data)) 2) else l

/-- Whether the FRAMING check fails (R29): a dominant stop bit, fewer than four bytes, a gap before the expected count of a
good header, or a frame cut by an entry into LINE_FAULT. -/
def framingFails (cut : Bool) (l : List RxByte) : Bool :=
  let d := l.map (·.data)
  cut || l.any (fun b => !b.stopOk) || l.length < 4 || (headerHolds d && l.length < 6 + u8At d 2)

/-- What the port makes of a received frame. -/
inductive Reception where
  | bad (e : ErrorKind)
  | good (sender : Nat) (f : Frame)
  deriving DecidableEq, Repr

/-- The payload that the kind byte announces. -/
def readPayload (d : List Byte) : Frame :=
  if u8At d 0 = 0x11 then .stage (readStage d)
  else if u8At d 0 = 0x22 then .start (readStart d)
  else .quit (readQuit d)

/-- The six reception checks in their order (R29). -/
def checkFrame (cut : Bool) (f : RxFrame) : Reception :=
  let l := framePart (rxBytes f)
  let d := l.map (·.data)
  if framingFails cut l then .bad .framing
  else if !headerHolds d then .bad .headerCheck
  else if !(1 ≤ u8At d 1 && u8At d 1 ≤ Config.stations) then .bad .sender
  else if !(u8At d 0 == 0x11 || u8At d 0 == 0x22 || u8At d 0 == 0x33) then .bad .kind
  else if u8At d 2 ≠ payloadLength (readPayload d) then .bad .length
  else if be16 (crc16 (d.take (d.length - 2))).toNat ≠ d.drop (d.length - 2) then .bad .payloadCrc
  else .good (u8At d 1) (readPayload d)

/-- The sender that the first-error record keeps of a bad frame (R31). -/
def errorSender (f : RxFrame) : Option Nat :=
  let d := (rxBytes f).map (·.data)
  if headerHolds d then some (u8At d 1) else none

/-- A frame received as it was sent, with recessive stop bits and no gap. -/
def received (l : List Byte) : RxFrame :=
  match l with
  | [] => { first := ⟨0#8, false⟩, rest := [] }
  | b :: r => { first := ⟨b, true⟩, rest := r.map fun x => ⟨x, true⟩ }

/-! ## Bits on the line, and contention (R18, R19, R22, section 2.4); `true` is recessive -/

/-- The ten bits of a byte: dominant start bit, data least significant first, recessive stop bit (R19). -/
def byteBits (b : Byte) : List Bool :=
  [false] ++ [0, 1, 2, 3, 4, 5, 6, 7].map (fun i => b.getLsbD i) ++ [true]

/-- The bits of a frame, its bytes back to back (R19). -/
def frameBits (sender : Nat) (f : Frame) : List Bool := (frameBytes sender f).flatMap byteBits

/-- The line as the logical AND of what the stations drive (R18). -/
def lineBit (drivers : List Bool) : Bool := drivers.all id

/-- Whether a station sending `own` reads a recessive bit of its own as dominant while another sends `other` (R22). The
station that loses releases its driver at once, before the next bit (R23), so the other then goes on alone. -/
def losesTo : List Bool → List Bool → Bool
  | o :: own, p :: other =>
    let line := lineBit [o, p]
    if o ≠ line then true else if p ≠ line then false else losesTo own other
  | _, _ => false

/-- The bit rate of a bit rate code as clamped, bit/s (R18). -/
def bitRateOf (code : Nat) : Nat :=
  match code with
  | 1 => 19200
  | 2 => 38400
  | _ => 9600

/-! ## The access wheel (R21) -/

/-- The slot offset of a station (R21). -/
def slotOffset (own : Nat) (lastSender : Option Nat) : Nat :=
  match lastSender with
  | some l => (own + 23 - l) % 24
  | none => own - 1

/-- Whether one of the station's slots begins at an idle time (R21). -/
def isSlot (own : Nat) (lastSender : Option Nat) (idle : Nat) : Bool :=
  let first := Config.idleGap + Config.slotLength * slotOffset own lastSender
  first ≤ idle && (idle - first) % Config.wheelTurn == 0

end Sys2Proof.Machine
end

