-- ==== Sys2Proof/Machine/Image.lean ====
section
/-! DEFINITION. The configuration image: its layout (R190), its validation (R177), its clamps (R180) and the
digest (R181). -/

namespace Sys2Proof.Machine

/-- The offset of a pump block (R190). -/
def blockOffset : Chan → Nat
  | .p1 => 40
  | .p2 => 60
  | .p3 => 80
  | .p4 => 100

/-- The pump checks: which blocks are fitted (R177). -/
def blockFitted (img : List Byte) (k : Chan) : Bool :=
  let o := blockOffset k
  u8At img o != 0 && u16At img (o + 3) < u16At img (o + 5) && u16At img (o + 1) != 0 && u16At img (o + 9) != 0

/-- A validation step: the failure reason when its check fails. -/
def firstFailure : List (Bool × FailureReason) → Option FailureReason
  | [] => none
  | (ok, r) :: rest => if ok then firstFailure rest else some r

/-- Validation: the first check that fails gives the failure reason (R177). -/
def validate (strap : Nat) (img : List Byte) : Option FailureReason :=
  firstFailure
    [ ((crc16 (img.take 126)).toNat == u16At img 126, .imageCrc),
      (u8At img 0 == 1, .version),
      (1 ≤ strap && strap ≤ Config.stations && strap == u8At img 1, .station),
      (s16At img 6 < s16At img 8, .stages),
      (s16At img 14 < s16At img 16, .levels),
      (s16At img 27 < s16At img 29 && s16At img 31 < s16At img 33 && s16At img 35 < s16At img 37, .scaling),
      (anyChan (blockFitted img), .noPump) ]

/-- Clamp to a range. -/
def clampNat (lo hi n : Nat) : Nat := max lo (min n hi)

/-- Steps 9 to 12 of the clamps, for a fitted pump (R180). A pump block that is not fitted keeps its figures as stored, its
full scale among them, and its current input is scaled with that figure, although R4 speaks of 0 to 4000 A for every channel
(DESIGN CHOICE, log entry 34). -/
def clampPump (p : PumpBlock) : PumpBlock :=
  if p.fitted then
    { p with
      qr := min p.qr 4000
      power := min p.power 4000
      fs := min p.fs 4000
      ioc := min p.ioc 4000
      istart := max (min p.istart 4000) (min p.ioc 4000)
      iul := min p.iul 4000
      nmin := clampNat 100 1022 p.nmin
      deglitch := if p.deglitch > 3 then 0 else p.deglitch }
  else p

/-- A pump block as stored, fitted as the pump checks decide (R177, R190). -/
def readPump (img : List Byte) (k : Chan) : PumpBlock :=
  let o := blockOffset k
  { fitted := blockFitted img k, qr := u16At img (o + 1), hr := u16At img (o + 3), hsh := u16At img (o + 5),
    nmin := u16At img (o + 7), power := u16At img (o + 9), fs := u16At img (o + 11), ioc := u16At img (o + 13),
    istart := u16At img (o + 15), iul := u16At img (o + 17), deglitch := u8At img (o + 19) }

/-- The bit rate code as clamped (R180, step 1). -/
def clampBitRate (c : Nat) : Nat := if c > 2 then 0 else c

/-- The report period code as clamped, with the bit rate code as clamped (R180, steps 2 and 3). -/
def clampPeriod (bitRate c : Nat) : Nat :=
  let c := min c 3
  if bitRate = 0 ∧ c = 0 then 1 else c

/-- The line parameter block as clamped, image bytes 2 to 13 (R181). -/
def lineBlock (c : StationConfig) : List Byte :=
  [BitVec.ofNat 8 c.bitRate, BitVec.ofNat 8 c.period] ++ be16 c.aFull ++ be16s c.sFree ++ be16s c.sClose
    ++ be16 c.pFeed ++ [BitVec.ofNat 8 c.tHold, BitVec.ofNat 8 c.tStart]

/-- The accepted configuration of a validated image: the clamps in their order (R180), then the digest (R181). -/
def configOf (img : List Byte) : StationConfig :=
  let bitRate := clampBitRate (u8At img 2)
  let c : StationConfig :=
    { station := u8At img 1
      bitRate := bitRate
      period := clampPeriod bitRate (u8At img 3)
      aFull := u16At img 4
      sFree := s16At img 6
      sClose := s16At img 8
      pFeed := u16At img 10
      tHold := clampNat 1 10 (u8At img 12)
      tStart := clampNat 2 30 (u8At img 13)
      target := s16At img 14
      alarm := s16At img 16
      dryRun := s16At img 18
      sumpMargin := min (u16At img 20) 2000
      qAssured := u16At img 22
      slewStep := clampNat 1 100 (u8At img 24)
      tRest := min (u16At img 25) 600
      polder := ⟨s16At img 27, s16At img 29⟩
      sump := ⟨s16At img 31, s16At img 33⟩
      river := ⟨s16At img 35, s16At img 37⟩
      pumps := quadOf fun k => clampPump (readPump img k)
      digest := 0 }
  { c with digest := (crc16 (lineBlock c)).toNat }

/-- The figures read while no configuration is accepted: no pump is fitted. No rule reads them; they make the
readers of the configuration total. -/
def StationConfig.blank : StationConfig :=
  let b : PumpBlock := ⟨false, 0, 0, 0, 0, 0, 0, 0, 0, 0, 0⟩
  { station := 0, bitRate := 0, period := 0, aFull := 0, sFree := 0, sClose := 0, pFeed := 0, tHold := 0,
    tStart := 0, target := 0, alarm := 0, dryRun := 0, sumpMargin := 0, qAssured := 0, slewStep := 0, tRest := 0,
    polder := ⟨0, 0⟩, sump := ⟨0, 0⟩, river := ⟨0, 0⟩, pumps := ⟨b, b, b, b⟩, digest := 0 }

/-- The report period P in seconds (R48). -/
def reportPeriod (c : StationConfig) : Nat := 2 ^ c.period

/-- A_full as the allowance unit reads it (R72). -/
def aFullRead (c : StationConfig) : Nat := min c.aFull Config.blockFigureMax

/-- P_feed as the arbiter reads it (R121). -/
def pFeedRead (c : StationConfig) : Nat := min c.pFeed Config.blockFigureMax

/-- The scans a check needs, by deglitch code (R158). -/
def deglitchScans (p : PumpBlock) : Nat :=
  match p.deglitch with
  | 1 => 10
  | 2 => 20
  | 3 => 40
  | _ => 5

/-- Full-speed discharge at a head (R100). -/
def fullDischarge (p : PumpBlock) (h : Nat) : Nat :=
  if h ≤ p.hr then p.qr
  else if p.hsh ≤ h then 0
  else p.qr * (p.hsh - h) / (p.hsh - p.hr)

/-- Estimated discharge at a speed reference, from Qmax (R100). -/
def atSpeed (qmax n : Nat) : Nat := qmax * n / Config.speedMax

end Sys2Proof.Machine
end

