-- ==== Sys2Proof/Machine/Share.lean ====
section
/-! DEFINITION. The computation of one allocation: governing stage, allowance, fixed consumption and net allowance
(chapter 4), then urgency, capacity, demand, members, grants and share (chapter 5). All of it is a function of the
accepted configuration, the snapshot and the governing stage held so far. -/

namespace Sys2Proof.Machine

/-! ## Governing stage and net allowance (chapter 4) -/

/-- A record that is FRESH or AGED. -/
def heard (r : PeerRecord) : Bool := r.status == .fresh || r.status == .aged

/-- The candidate stage of a peer record (R68). -/
def peerCandidate (r : PeerRecord) : Option Int :=
  if heard r && !r.mismatch then
    match r.report with
    | some p => if p.river = Config.invalidLevel then none else some p.river
    | none => none
  else none

/-- The candidate stages of an evaluation: own, then peers (R68). -/
def candidates (sn : Snapshot) : List Int := sn.river.toList ++ sn.records.filterMap peerCandidate

/-- The largest of a list of stages. -/
def largest : List Int → Option Int
  | [] => none
  | x :: rest =>
    match largest rest with
    | none => some x
    | some y => some (max x y)

/-- The river allowance at a governing stage (R71, R72). -/
def allowanceAt (c : StationConfig) (s : Int) : Nat :=
  if s ≤ c.sFree then aFullRead c
  else if c.sClose ≤ s then 0
  else aFullRead c * (c.sClose - s).toNat / (c.sClose - c.sFree).toNat

/-- The contribution of a peer record to the fixed consumption (R73). -/
def contribution (r : PeerRecord) : Nat :=
  match r.report with
  | none => 0
  | some p =>
    match r.status with
    | .fresh | .aged => if r.mismatch then p.cav + p.eHand else p.eHand
    | .lost => p.cav + p.eHand
    | .absent | .self | .quit => 0

/-- The fixed consumption F (R73, R75). -/
def fixedConsumption (sn : Snapshot) : Nat := sn.eHand + (sn.records.map contribution).sum

/-- One evaluation of the allowance unit (R67 to R76), from the figures it held. -/
def evaluate (c : StationConfig) (sn : Snapshot) (held : Allowance) : Allowance :=
  let cand := candidates sn
  let found := largest cand
  let s := found.getD (if held.known then held.stage.getD c.sClose else c.sClose)
  let a := allowanceAt c s
  let f := fixedConsumption sn
  { stage := some s, known := held.known || found.isSome, blind := found.isNone, allowance := some a,
    fixed := some f, net := some (a - f), candidates := cand.length }

/-! ## Urgency, capacity and demand (R83 to R86) -/

/-- The urgency of a working polder level (R83). -/
def urgencyAt (c : StationConfig) (l : Int) : Nat :=
  if l ≤ c.target then 0
  else if c.alarm ≤ l then 1000
  else (l - c.target).toNat * 1000 / (c.alarm - c.target).toNat

/-- The own urgency of a snapshot (R83, R84). -/
def ownUrgency (c : StationConfig) (sn : Snapshot) : Nat :=
  if sn.degraded then Config.degradedUrgency
  else
    match sn.level with
    | some l => urgencyAt c l
    | none => Config.degradedUrgency

/-- A channel counts in Cav: fitted, in AUTO, and IDLE, NOTICE, STARTING or RUNNING (R85). -/
def countsInCav (x : SnapChan) : Bool :=
  x.fitted && x.mode == some .auto &&
    (x.state == some .idle || x.state == some .notice || x.state == some .starting || x.state == some .running)

/-- The available capacity of a snapshot (R85). -/
def ownCapacity (sn : Snapshot) : Nat :=
  if sn.lockout || sn.coord == some .leaving then 0
  else sumChans fun k => if countsInCav (quadGet sn.chans k) then (quadGet sn.chans k).qmax else 0

/-- The demand: ceil(Cav × U / 1000) (R86). -/
def demandOf (cav u : Nat) : Nat := (cav * u + 999) / 1000

/-! ## Members and grants (R87 to R91) -/

/-- A member of the allocation. -/
structure Member where
  station : Nat
  urgency : Nat
  demand  : Nat
  deriving DecidableEq, Repr

/-- A member with its grant. -/
structure Granted where
  member : Member
  grant  : Nat
  deriving DecidableEq, Repr

/-- The member that a record gives: the own station at its own number, a trusted peer elsewhere (R87). -/
def memberOf (own u d : Nat) (rn : PeerRecord × Nat) : Option Member :=
  if rn.2 = own then
    if 0 < d then some ⟨own, u, d⟩ else none
  else if heard rn.1 && !rn.1.mismatch then
    match rn.1.report with
    | some p => if 0 < p.demand then some ⟨rn.2, p.urgency, p.demand⟩ else none
    | none => none
  else none

/-- The members, station number ascending (R87). -/
def members (own u d : Nat) (records : List PeerRecord) : List Member :=
  (records.zipIdx 1).filterMap (memberOf own u d)

/-- The weight of a member (R89). -/
def weight (m : Member) : Nat := m.demand * m.urgency

/-- ΣD (R88). -/
def demandSum (ms : List Member) : Nat := (ms.map (·.demand)).sum

/-- ΣW (R89). -/
def weightSum (ms : List Member) : Nat := (ms.map weight).sum

/-- The first pass, capped at each member's demand (R89, R90). With ΣW = 0 every first-pass grant is 0. -/
def firstPass (net : Nat) (ms : List Member) : List Granted :=
  ms.map fun m =>
    ⟨m, if weightSum ms = 0 then 0 else min (net * weight m / weightSum ms) m.demand⟩

/-- Σg (R90). -/
def grantSum (gs : List Granted) : Nat := (gs.map (·.grant)).sum

/-- The order of the second pass: urgency descending, then station number ascending (R91). -/
def comesBefore (a b : Granted) : Bool :=
  b.member.urgency < a.member.urgency ||
    (a.member.urgency == b.member.urgency && a.member.station ≤ b.member.station)

/-- Puts one member in its place of the second pass's order. -/
def insertGranted (x : Granted) : List Granted → List Granted
  | [] => [x]
  | y :: rest => if comesBefore x y then x :: y :: rest else y :: insertGranted x rest

/-- The members in the order of the second pass (R91). -/
def secondOrder (gs : List Granted) : List Granted := gs.foldr insertGranted []

/-- The second pass: each member in turn takes min(R, D − g) (R91). -/
def handOut : Nat → List Granted → List Granted
  | _, [] => []
  | r, x :: rest =>
    let t := min r (x.member.demand - x.grant)
    { x with grant := x.grant + t } :: handOut (r - t) rest

/-- The grants of all members (R88 to R91). -/
def grants (net : Nat) (ms : List Member) : List Granted :=
  if demandSum ms ≤ net then ms.map fun m => ⟨m, m.demand⟩
  else
    let g := firstPass net ms
    handOut (net - grantSum g) (secondOrder g)

/-- The own grant, 0 when the own station is no member (R92). -/
def ownGrant (own : Nat) (gs : List Granted) : Nat :=
  match gs.find? (fun g => g.member.station == own) with
  | some g => g.grant
  | none => 0

/-! ## The share (R92 to R94) -/

/-- The isolated condition of a snapshot (R93). -/
def isolatedIn (sn : Snapshot) : Bool := sn.records.any (fun r => r.status == .lost) || sn.port != .active

/-- The own share from the own grant: assured share, then closure (R92 to R94). -/
def shareOf (c : StationConfig) (isolated : Bool) (stage : Int) (grant d : Nat) : Nat :=
  let g := if isolated then max grant (min c.qAssured d) else grant
  if c.sClose ≤ stage then 0 else g

/-- The figures the allocation unit publishes, apart from Q_tgt (R81). -/
structure ShareResult where
  urgency  : Nat
  cav      : Nat
  demand   : Nat
  share    : Nat
  isolated : Bool
  deriving DecidableEq, Repr

/-- The allocation of one snapshot, after the allowance evaluation `e` of the same snapshot (R81 to R94). -/
def allocate (c : StationConfig) (sn : Snapshot) (e : Allowance) : ShareResult :=
  let u := ownUrgency c sn
  let cav := ownCapacity sn
  let d := demandOf cav u
  let grant := ownGrant c.station (grants (e.net.getD 0) (members c.station u d sn.records))
  { urgency := u, cav := cav, demand := d,
    share := shareOf c (isolatedIn sn) (e.stage.getD c.sClose) grant d, isolated := isolatedIn sn }

end Sys2Proof.Machine
end

