-- ==== Sys2Proof/Machine/Access.lean ====
section
/-! DEFINITION. Readers of the state: the accepted configuration, the channels, the peer records, and the figures
that several blocks read from the same place. -/

namespace Sys2Proof.Machine

/-- The accepted configuration, or the blank one before an acceptance. -/
def State.cfg (s : State) : StationConfig := s.ctl.config.getD .blank

/-- The own station number. -/
def State.own (s : State) : Nat := s.cfg.station

/-- The pump block of a channel. -/
def State.pump (s : State) (k : Chan) : PumpBlock := quadGet s.cfg.pumps k

/-- A channel is fitted: declared so in the image and accepted at load (R137, R177). -/
def State.fitted (s : State) (k : Chan) : Bool := (s.pump k).fitted

/-- One pump channel. -/
def State.chan (s : State) (k : Chan) : Channel := quadGet s.chans k

/-- The state of a channel. -/
def State.chanState (s : State) (k : Chan) : Option ChanState := (s.chan k).state

/-- A channel is in a state. -/
def State.isIn (s : State) (k : Chan) (x : ChanState) : Bool := s.chanState k == some x

/-- Replaces a channel. -/
def State.setChan (s : State) (k : Chan) (c : Channel) : State := s.setChans (quadSet s.chans k c)

/-- The record of station n, 1 to 24. -/
def State.record (s : State) (n : Nat) : PeerRecord := s.view.records.getD (n - 1) .absent

/-- Replaces the record of station n. -/
def State.setRecord (s : State) (n : Nat) (r : PeerRecord) : State :=
  s.setView { s.view with records := s.view.records.set (n - 1) r }

/-- The station coordinates or leaves: the two states in which reports are composed (R50, R51). -/
def State.reporting (s : State) : Bool :=
  s.sched.coord == some .coordinating || s.sched.coord == some .leaving

/-- The channel is in R, the set of channels in STARTING or RUNNING (R106). -/
def State.inR (s : State) (k : Chan) : Bool := s.isIn k .starting || s.isIn k .running

/-- The run output's states: STARTING, RUNNING or STOPPING (R140). -/
def State.turning (s : State) (k : Chan) : Bool := s.inR k || s.isIn k .stopping

/-- Qmax of a channel: from the discharge table, or Qr of a fitted channel until the table is first formed (R101). -/
def State.qmax (s : State) (k : Chan) : Nat :=
  match s.disp.table with
  | some t =>
    match quadGet t k with
    | some d => d.qmax
    | none => 0
  | none => if s.fitted k then (s.pump k).qr else 0

/-- Qmin of a channel (R100, R101). -/
def State.qmin (s : State) (k : Chan) : Nat :=
  match s.disp.table with
  | some t =>
    match quadGet t k with
    | some d => d.qmin
    | none => 0
  | none => if s.fitted k then atSpeed (s.pump k).qr (s.pump k).nmin else 0

/-- The published working current of a channel's input; `none` in INIT, in LOST and before a value is formed. -/
def State.current (s : State) (k : Chan) : Option Nat := (quadGet s.acq.pub.currents k).working

/-- The accepted configuration does not fit the channel: it has no mode and no SELECTOR flag (R137). Before an acceptance no
channel is known to be left out. -/
def State.leftOut (s : State) (k : Chan) : Bool := s.ctl.config.isSome && !s.fitted k

/-- The port receives and delivers frames: LISTEN, ACTIVE, LINE_FAULT or MUTE (R20), once the receiver has found
the line recessive (R38), and while no own frame is in transmission. A wait of R38 that has not ended goes on in ACTIVE and
LINE_FAULT (DESIGN CHOICE, log entry 38). -/
def State.receives (s : State) : Bool :=
  (s.port.state == .listen || s.port.state == .active || s.port.state == .lineFault || s.port.state == .mute)
    && !s.port.sync && s.port.tx.isNone

/-- The maintenance port receives and answers: from the end of CLOCKSTART until the next reset (R169, R184). -/
def State.portOpen (s : State) : Bool :=
  !s.ctl.resetHeld && s.ctl.step != .powerup && s.ctl.step != .clockstart

end Sys2Proof.Machine
end

