-- ==== Sys2Proof/Machine/Flags.lean ====
section
/-! DEFINITION. The flags and the outputs that are functions of the state: the report flags (R43), the alarm cause
set and the station alarm output (R166, R167), and what the part drives at its pins (R170, R140, R18). -/

namespace Sys2Proof.Machine

/-- The report flags that the next STAGE would carry (R43). -/
def reportFlags (s : State) : ReportFlags :=
  { restarted := s.sched.restart, degraded := s.acq.pub.degraded, isolated := s.alloc.isolated,
    dry := s.disp.lockout, leaving := s.sched.coord == some .leaving, blind := s.allow.blind }

/-- Whether an alarm condition holds (R166). -/
def alarmHolds (s : State) : AlarmCause → Bool
  | .startup => s.sched.coord == none || s.sched.coord == some .joining
  | .halted => s.ctl.step == .halted || s.ctl.step == .configWait
  | .fault => anyChan fun k => s.fitted k && s.isIn k .fault
  | .selector => anyChan fun k => s.fitted k && (s.chan k).selector
  | .level =>
    s.acq.pub.polder.state != .good || s.acq.pub.sump.state != .good || s.acq.pub.river.state != .good
  | .current => anyChan fun k => s.fitted k && (quadGet s.acq.pub.currents k).state == .lost
  | .port => s.sched.coord == some .coordinating && s.port.state != .active
  | .mismatch => s.view.records.any fun r => r.mismatch && (heard r || r.status == .lost)
  | .blind => s.allow.blind

/-- The alarm cause set, in the order of R186. -/
def alarmCauses (s : State) : List AlarmCause :=
  [.startup, .halted, .fault, .selector, .level, .current, .port, .mismatch, .blind].filter (alarmHolds s)

/-- The station alarm output: active while the set is not empty, inactive while a reset is held (R167). -/
def alarmOutput (s : State) : Bool := !s.ctl.resetHeld && !(alarmCauses s).isEmpty

/-- The state of the dike line driver (R18). -/
inductive LineDriver where
  | disabled
  | released
  | sending (f : Frame)
  deriving DecidableEq, Repr

/-- What the part drives at its pins. `memoryOut` holds the bytes sent on data out while the serial memory is selected. -/
structure Outputs where
  run          : Quad Bool
  speed        : Quad Nat
  alarm        : Bool
  line         : LineDriver
  memorySelect : Bool
  memoryOut    : List Byte
  response     : Option Response
  deriving DecidableEq, Repr

/-- The dike line driver (R18, R22): disabled in OFF, SELFTEST and DEAD, released but for an own frame elsewhere. -/
def lineDriver (s : State) : LineDriver :=
  match s.port.state, s.port.tx with
  | .off, _ | .selftest, _ | .dead, _ => .disabled
  | _, some t => .sending t.frame
  | _, none => .released

/-- The outputs of the part (R170): run outputs, speed references (duty n/1023), alarm, line driver, serial memory
select and data out (R176), and the response being sent. -/
def outputs (s : State) : Outputs :=
  { run := quadOf fun k => (s.chan k).run
    speed := quadOf fun k => (s.chan k).reference
    alarm := alarmOutput s
    line := lineDriver s
    memorySelect := s.ctl.step == .configLoad
    memoryOut := if s.ctl.step = .configLoad then memoryCommand else []
    response := s.maint.response }

end Sys2Proof.Machine
end

