-- ==== Sys2Proof/Machine/Ops.lean ====
section
/-! DEFINITION. The operations that several commands share, block by block: counters, dispatch figures, the
transmit queue and the reports on its frames, the scheduler's composition and its prompt causes, the own
notice, channel moves, the port's departures, reception, the entry to JOINING and the acceptance of a
configuration. Each is a function from state to state. -/

namespace Sys2Proof.Machine

/-- One more, saturating at a limit. -/
def satInc (limit n : Nat) : Nat := min (n + 1) limit

/-- The four channels in turn. -/
def forChans (f : State → Chan → State) (s : State) : State :=
  f (f (f (f s .p1) .p2) .p3) .p4

/-! ## Dispatch figures (R99 to R103, R111) -/

/-- The discharge table at the published head (R101); it stands as it is while no head is published. -/
def formTable (s : State) : State :=
  match s.acq.pub.head with
  | none => s
  | some h =>
    s.setDisp { s.disp with
      table := some (quadOf fun k =>
        if s.fitted k then
          some ⟨fullDischarge (s.pump k) h, atSpeed (fullDischarge (s.pump k) h) (s.pump k).nmin⟩
        else none) }

/-- Crun: the sum of Qmax over R (R106). -/
def crunOf (s : State) : Nat := sumChans fun k => if s.inR k then s.qmax k else 0

/-- E_auto (R103). -/
def eAutoOf (s : State) : Nat :=
  sumChans fun k => if s.turning k then atSpeed (s.qmax k) (s.chan k).reference else 0

/-- E_hand (R103). -/
def eHandOf (s : State) : Nat := sumChans fun k => if quadGet s.disp.hand k then s.qmax k else 0

/-- The running power (R103). -/
def runPowerOf (s : State) : Nat :=
  sumChans fun k => if s.turning k || quadGet s.disp.hand k then (s.pump k).power else 0

/-- Forms Crun, E_auto, E_hand and the running power anew (R103, R106). -/
def reform (s : State) : State :=
  s.setDisp { s.disp with
    crun := crunOf s, eAuto := eAutoOf s, eHand := eHandOf s, runPower := runPowerOf s }

/-- n_lo: the largest nmin among the RUNNING channels (R111). -/
def nLo (s : State) : Nat :=
  let f := fun k => if s.isIn k .running then (s.pump k).nmin else 0
  max (max (f .p1) (f .p2)) (max (f .p3) (f .p4))

/-- Forms the speed target, which keeps its value while no channel is RUNNING (R111). -/
def formNt (s : State) : State :=
  if anyChan fun k => s.isIn k .running then
    let nt :=
      if 0 < s.disp.crun then max (nLo s) (min (s.alloc.qTgt * Config.speedMax / s.disp.crun) Config.speedMax)
      else nLo s
    s.setDisp { s.disp with nt := some nt }
  else s

/-- Whether a LOCAL channel counts as running by hand: by its published current, and also while it has no working
current (R102; log entry 8). -/
def handJudged (s : State) (k : Chan) : Bool :=
  match s.current k with
  | some w => (s.pump k).iul ≤ w
  | none => true

/-- The hand-running set formed anew for every LOCAL channel (R102). -/
def judgeHand (s : State) : State :=
  s.setDisp { s.disp with hand := quadOf fun k => s.isIn k .inLocal && handJudged s k }

/-- The front-most channel of the rotation list in a state (R104). -/
def frontMost (s : State) (x : ChanState) : Option Chan :=
  ((s.disp.rotation.getD []).filterMap chanOfNum).find? (fun k => s.isIn k x)

/-! ## The own notice and its frame (R119, R123, R128) -/

/-- Starts the hold-off of the own notice; its phase becomes holding (R123). -/
def startHoldOff (s : State) (n : OwnNotice) : State :=
  s.setArb { s.arb with notice := some { n with phase := .holding }, holdOff := some (s.cfg.tHold * 1000) }

/-- A START that was completed, refused or discarded starts the hold-off of the notice that carries its number; for
any other START nothing changes (R123). -/
def startEnded (s : State) (number : Nat) : State :=
  match s.arb.notice with
  | some n => if n.number = number then startHoldOff s n else s
  | none => s

/-- A START whose transmission began or was returned to the queue changes the phase of its notice (R123). -/
def startPhase (s : State) (number : Nat) (phase : NoticePhase) : State :=
  match s.arb.notice with
  | some n => if n.number = number then s.setArb { s.arb with notice := some { n with phase := phase } } else s
  | none => s

/-! ## Reports: composition and prompt causes (R42 to R44, R50 to R52) -/

/-- The STAGE payload composed now (R42). -/
def stagePayload (s : State) : StagePayload :=
  { number := s.sched.counter
    flags := reportFlags s
    polder := s.acq.pub.polder.working.getD Config.invalidLevel
    river := s.acq.pub.river.working.getD Config.invalidLevel
    urgency := s.alloc.urgency
    demand := s.alloc.demand
    cav := s.alloc.cav
    eAuto := s.disp.eAuto
    eHand := s.disp.eHand
    runPower := s.disp.runPower
    instPower := s.disp.instPower.getD 0
    share := s.alloc.share
    digest := s.cfg.digest }

/-- Offers a STAGE: queued in the place of a queued STAGE when the port is ACTIVE, refused otherwise (R27, R53). -/
def offerStage (s : State) (p : StagePayload) : State :=
  if s.port.state = .active then
    s.setPort { s.port with queue := { s.port.queue with stage := some p } }
  else s

/-- Composes a STAGE and offers it: the own record takes the payload, the counter advances, the report timer restarts
and the prompt pending mark is cleared (R42, R44, R50, R52, R64). -/
def composeStage (s : State) : State :=
  let p := stagePayload s
  let s := s.setRecord s.own { s.record s.own with report := some p }
  let s := s.setSched { s.sched with
    counter := (s.sched.counter + 1) % 256
    reportTimer := some (reportPeriod s.cfg * 1000)
    prompt := false }
  offerStage s p

/-- A STAGE of the station is in transmission. -/
def stageOnLine (s : State) : Bool :=
  match s.port.tx with
  | some ⟨.stage _, _⟩ => true
  | _ => false

/-- One prompt cause: acted upon in COORDINATING and LEAVING, at once or by the prompt pending mark (R51, R52). -/
def promptCause (s : State) : State :=
  if s.reporting then
    if s.sched.spacingTimer.isNone && !stageOnLine s then composeStage s
    else s.setSched { s.sched with prompt := true }
  else s

/-- Several prompt causes of one event, each in its turn (log entry 5). -/
def promptCauses : Nat → State → State
  | 0, s => s
  | n + 1, s => promptCauses n (promptCause s)

/-- The STAGE in transmission ended without completion: a pending report follows when the spacing timer is not
running (R52). -/
def stageLost (s : State) : State :=
  if s.reporting && s.sched.prompt && s.sched.spacingTimer.isNone then composeStage s else s

/-! ## Leaving (R46, R53, R55, R56) -/

/-- Entry to LEFT (R56): the timers stop, the marks clear and a queued STAGE is withdrawn. -/
def enterLeft (s : State) : State :=
  let s := s.setSched { s.sched with
    coord := some .left, reportTimer := none, spacingTimer := none, prompt := false, quitOffered := false }
  let s := s.setAlloc { s.alloc with timer := none }
  s.setPort { s.port with queue := { s.port.queue with stage := none } }

/-- A QUIT that was completed, refused or discarded ends LEAVING (R53). -/
def quitEnded (s : State) : State :=
  if s.sched.coord = some .leaving then enterLeft s else s

/-- The QUIT condition: no own channel STARTING, RUNNING or STOPPING, and E_hand 0 (R55). -/
def quitCondition (s : State) : Bool := !(anyChan fun k => s.turning k) && s.disp.eHand == 0

/-- Composes and offers the QUIT (R46, R27): in ACTIVE it removes a queued START and is queued, elsewhere it is refused. -/
def offerQuit (s : State) : State :=
  let p : QuitPayload := { reason := 1, number := (s.sched.counter + 255) % 256 }
  let s := s.setSched { s.sched with quitOffered := true }
  if s.port.state = .active then
    let start := s.port.queue.start
    let s := s.setPort { s.port with queue := { s.port.queue with start := none, quit := some p } }
    match start with
    | some q => startEnded s q.number
    | none => s
  else quitEnded s

/-- Tests the QUIT condition in LEAVING (R55). -/
def quitTest (s : State) : State :=
  if s.sched.coord = some .leaving ∧ quitCondition s = true ∧ s.sched.quitOffered = false then offerQuit s else s

/-! ## The end of an event that touched the channels (R103, R111, R117, R155) -/

/-- The set R as it stands. -/
def rSet (s : State) : Quad Bool := quadOf s.inR

/-- The set of RUNNING channels as it stands. -/
def runningSet (s : State) : Quad Bool := quadOf fun k => s.isIn k .running

/-- The states of the channels. -/
def chanStates (s : State) : Quad (Option ChanState) := quadOf s.chanState

/-- An occasion of the QUIT test: a channel changed its state, or E_hand changed (R55). -/
def quitOccasion (s0 s : State) : Bool := chanStates s0 != chanStates s || s0.disp.eHand != s.disp.eHand

/-- An occasion to form n_t: a change of R or of the RUNNING set (R111), and a latch taken, also one in STOPPING, which changes
neither set (R163). Other changes of channel state are none: R117 has n_t formed by R111 (DEDUCED, log entry 36). -/
def speedTargetDue (s0 s : State) : Bool :=
  rSet s0 != rSet s || runningSet s0 != runningSet s || anyChan fun k => s.isIn k .fault && !s0.isIn k .fault

/-- Ends an event that began in `s0` and has moved channels, the hand-running set, references or the discharge table, with
`causes` prompt causes of its own: the figures are formed anew, n_t is formed where it is due,
the prompt causes follow (a change of E_hand is one), and then the QUIT condition is tested on an occasion
(R103, R111, R163, R51, R55; log entry 5). -/
def settle (s0 : State) (causes : Nat) (s : State) : State :=
  let s := reform s
  let s := if speedTargetDue s0 s then formNt s else s
  let handCause := if s0.disp.eHand != s.disp.eHand then 1 else 0
  let occasion := quitOccasion s0 s
  let s := promptCauses (causes + handCause) s
  if occasion then quitTest s else s

/-! ## Channel moves (chapter 8) -/

/-- A channel put into a state in which its outputs are inactive: run output off, reference 0, timers stopped (R140). -/
def parked (c : Channel) (x : ChanState) : Channel :=
  { c with state := some x, run := false, reference := 0, window := none, rest := none }

/-- Gives a channel its new state; it leaves the hand-running set, or is judged for it at its entry to LOCAL (R102). -/
def moveChan (s : State) (k : Chan) (c : Channel) : State :=
  let s := s.setChan k c
  s.setDisp { s.disp with hand := quadSet s.disp.hand k (c.state == some .inLocal && handJudged s k) }

/-- Entry to RESTING with a full rest; with T_rest = 0 the channel passes on into IDLE (R144). -/
def enterResting (s : State) (k : Chan) : State :=
  if s.cfg.tRest = 0 then moveChan s k (parked (s.chan k) .idle)
  else moveChan s k { parked (s.chan k) .resting with rest := some (s.cfg.tRest * 1000) }

/-- Places a channel by its mode (R152, R153). Only a fitted channel is placed, and it has a mode. -/
def placeByMode (s : State) (k : Chan) : State :=
  match (s.chan k).mode with
  | some .auto => enterResting s k
  | some .hand => moveChan s k (parked (s.chan k) .inLocal)
  | some .off => moveChan s k (parked (s.chan k) .disabled)
  | none => s

/-- A stop order: STARTING or RUNNING goes to STOPPING, any other state ignores it (R117, R147, R149). -/
def stopOrder (s : State) (k : Chan) : State :=
  if s.inR k then moveChan s k { s.chan k with state := some .stopping, window := none } else s

/-- A dry-run order: STARTING, RUNNING or STOPPING goes to RESTING, any other state ignores it (R117, R150). -/
def dryRunOrder (s : State) (k : Chan) : State := if s.turning k then enterResting s k else s

/-- An order back to IDLE: taken in NOTICE alone (R146). -/
def backToIdle (s : State) (k : Chan) : State :=
  if s.isIn k .notice then moveChan s k (parked (s.chan k) .idle) else s

/-- The start order at the end of the hold-off: taken in NOTICE alone; run output on, reference at nmin, start window
started, and the channel goes to the end of the rotation list (R104, R131, R147). -/
def startOrder (s : State) (k : Chan) : State :=
  if s.isIn k .notice then
    let s := moveChan s k { s.chan k with
      state := some .starting, run := true, reference := (s.pump k).nmin
      window := some (s.cfg.tStart * 1000), rest := none }
    s.setDisp { s.disp with
      rotation := s.disp.rotation.map fun l => l.filter (fun n => n != chanNum k) ++ [chanNum k] }
  else s

/-- A fault latch offered to a channel: taken in STARTING, RUNNING or STOPPING, discarded elsewhere (R151, R162). In both
cases the channel's counts are set to 0. -/
def latchFault (s : State) (k : Chan) (kind : FaultKind) : State :=
  if s.turning k then
    let s := s.setSup { s.sup with watch := quadSet s.sup.watch k { Watch.reset with latch := some kind } }
    moveChan s k (parked (s.chan k) .fault)
  else
    s.setSup { s.sup with
      watch := quadSet s.sup.watch k { Watch.reset with latch := (quadGet s.sup.watch k).latch } }

/-- How many channels are in FAULT: the latches taken by an event are the difference (R163). -/
def faultCount (s : State) : Nat := sumChans fun k => if s.isIn k .fault then 1 else 0

/-- The offered latch of one channel reaches it in the state it then holds (R162). -/
def latchArrives (s : State) (k : Chan) : State :=
  match quadGet s.sup.offered k with
  | some kind => latchFault s k kind
  | none => s

/-- The latches on their way reach their channels, at the end of the one event that was taken before them (R148, R150, R151, R165;
log entry 33). -/
def latchesArrive (s : State) : State :=
  if s.sup.offered = ⟨none, none, none, none⟩ then s
  else
    let t := forChans latchArrives s
    settle s (faultCount t - faultCount s) (t.setSup { t.sup with offered := ⟨none, none, none, none⟩ })

/-- Clears all fault latches and counts; each channel in FAULT leaves it by its mode (R152, R165). A clear that is taken before a
latch on its way lets the latch stand, and the channel is in FAULT after both; a clear that is taken before the scan completion
has the run begin again from 0 (R165; log entry 33). -/
def clearFaultLatches (s : State) : State :=
  let s := s.setSup { s.sup with watch := ⟨.reset, .reset, .reset, .reset⟩ }
  latchesArrive (if anyChan fun k => s.isIn k .fault then
      settle s 0 (forChans (fun s k => if s.isIn k .fault then placeByMode s k else s) s)
    else s)

/-! ## Withdrawal of the own notice (R125, R128) -/

/-- Withdraws the own notice's frame: a queued START leaves the queue, a START in transmission is marked withdrawn
(R27). -/
def withdrawStart (s : State) (n : OwnNotice) : State :=
  match n.phase with
  | .queued => s.setPort { s.port with queue := { s.port.queue with start := none } }
  | .onLine => s.setPort { s.port with tx := s.port.tx.map fun t => { t with withdrawn := true } }
  | .holding => s

/-- Clears the own notice, with its frame withdrawn and its hold-off stopped; gives no order to the channel. -/
def dropNotice (s : State) : State :=
  match s.arb.notice with
  | some n =>
    let s := withdrawStart s n
    s.setArb { s.arb with notice := none, holdOff := none }
  | none => s

/-- Withdraws the own notice and orders its channel back to IDLE; ignored while no notice stands (R128). -/
def withdrawNotice (s : State) : State :=
  match s.arb.notice with
  | some n => backToIdle (dropNotice s) n.channel
  | none => s

/-! ## The port's departures (R23, R25, R28, R32, R37) -/

/-- Reports one frame as discarded to the block that offered it (R28, R53, R123). `onLine` tells a frame in transmission from
a queued one. -/
def reportDiscarded (s : State) (onLine : Bool) (f : Frame) : State :=
  match f with
  | .start p => startEnded s p.number
  | .stage _ => if onLine then stageLost s else s
  | .quit _ => quitEnded s

/-- Reports a frame that may be there as discarded. -/
def reportDiscardedIf (s : State) (onLine : Bool) (f : Option Frame) : State :=
  match f with
  | some f => reportDiscarded s onLine f
  | none => s

/-- Takes the port to another state with the queue emptied and any transmission stopped; each removed frame is reported as
discarded, the frame in transmission first (R28; log entry 6). The idle time stands as it is held, so it is not counted after an
own transmission that was stopped part way (DESIGN CHOICE, log entry 11). -/
def leaveActive (s : State) (x : PortState) : State :=
  let q := s.port.queue
  let tx := s.port.tx
  let s := s.setPort { s.port with state := x, queue := .empty, tx := none }
  let s := reportDiscardedIf s true (tx.map (·.frame))
  let s := reportDiscardedIf s false (q.start.map .start)
  let s := reportDiscardedIf s false (q.stage.map .stage)
  reportDiscardedIf s false (q.quit.map .quit)

/-- Entry to LINE_FAULT (R25). -/
def enterLineFault (s : State) : State :=
  let s := s.setPort { s.port with
    lineFaults := satInc Config.counterMax s.port.lineFaults
    lineFaultTimer := some Config.lineFaultPeriod
    lossCount := 0
    lastSender := none }
  leaveActive s .lineFault

/-- Entry to MUTE from a state that receives (R32, R37); MUTE stays MUTE. -/
def enterMute (s : State) : State :=
  if s.port.state = .mute then s
  else leaveActive (s.setPort { s.port with lineFaultTimer := none }) .mute

/-- The mute order of a clock fallback, by port state (R37). -/
def muteOrder (s : State) : State :=
  match s.port.state with
  | .off | .selftest => s.setPort { s.port with muteHeld := true }
  | .listen | .active | .lineFault => enterMute s
  | .mute | .dead => s

/-! ## The peer view (R59 to R62) -/

/-- A level or stage outside the range is stored as invalid (R59). -/
def normalLevel (z : Int) : Int := if -9999 ≤ z ∧ z ≤ 9999 then z else Config.invalidLevel

/-- The payload as normalised at acceptance (R59). -/
def normalise (p : StagePayload) : StagePayload :=
  { p with
    polder := normalLevel p.polder
    river := normalLevel p.river
    urgency := min p.urgency 1000
    cav := min p.cav Config.peerFigureMax
    demand := min (min p.demand Config.peerFigureMax) (min p.cav Config.peerFigureMax)
    eAuto := min p.eAuto Config.peerFigureMax
    eHand := min p.eHand Config.peerFigureMax }

/-- The record after a good STAGE (R60). -/
def acceptStage (ownDigest : Nat) (p : StagePayload) (r : PeerRecord) : PeerRecord :=
  { status := .fresh
    mismatch := p.digest != ownDigest
    report := some (normalise p)
    lastNumber := p.number
    age := 0
    missed :=
      if r.status = .absent ∨ p.flags.restarted = true then r.missed
      else min (r.missed + (p.number + 511 - r.lastNumber) % 256) 255
    pending := if p.flags.restarted then none else r.pending }

/-- The record after a good QUIT (R61). -/
def acceptQuit (p : QuitPayload) (r : PeerRecord) : PeerRecord :=
  { r with
    status := .quit
    lastNumber := p.number
    missed := if r.report.isSome then min (r.missed + (p.number + 512 - r.lastNumber) % 256) 255 else r.missed
    pending := none }

/-- The pending start that a good START creates (R62). -/
def pendingOf (c : StationConfig) (p : StartPayload) : PendingStart :=
  { channel := p.channel, power := p.power, urgency := min p.urgency 1000, number := p.number,
    remaining := (c.tHold + c.tStart) * 10, yielded := false }

/-- The status of a record by its age (R63). -/
def statusByAge (period age : Nat) : RecordStatus :=
  if age ≤ 20 * period then .fresh else if age ≤ 50 * period then .aged else .lost

/-- One ageing expiry of a record: age, status, and the countdown of its pending start (R62, R63). -/
def ageRecord (period : Nat) (r : PeerRecord) : PeerRecord :=
  let aged := heard r || r.status == .lost
  let age := if aged then satInc Config.counterMax r.age else r.age
  { r with
    age := age
    status := if aged then statusByAge period age else r.status
    pending :=
      match r.pending with
      | some p => if p.remaining ≤ 1 then none else some { p with remaining := p.remaining - 1 }
      | none => none }

/-! ## Start conditions and ranking (R120, R121, R124 to R127) -/

/-- Condition (b): no pending start whose yielded mark is clear, QUIT records apart (R120). -/
def guardHolds (s : State) : Bool :=
  s.view.records.all fun r =>
    r.status == .quit ||
      match r.pending with
      | some p => p.yielded
      | none => true

/-- A record's term of the feeder sum: running or installed power, and its unyielded pending start (R121). -/
def feederTerm (r : PeerRecord) : Nat :=
  (match r.report with
    | some p => if heard r then p.runPower else if r.status == .lost then p.instPower else 0
    | none => 0)
  + (match r.pending with
    | some p => if r.status == .quit || p.yielded then 0 else p.power
    | none => 0)

/-- The feeder sum with a channel as the candidate (R121). -/
def feederSum (s : State) (k : Chan) : Nat :=
  (s.view.records.map feederTerm).sum + s.disp.runPower + (s.pump k).power

/-- Condition (c), the power check (R120, R121). -/
def powerHolds (s : State) (k : Chan) : Bool := feederSum s k ≤ pFeedRead s.cfg

/-- Condition (a): no own channel in NOTICE or STARTING (R120). -/
def oneStart (s : State) : Bool := !(anyChan fun k => s.isIn k .notice || s.isIn k .starting)

/-- A notice outranks another (R124). -/
def outranks (urgency station urgency' station' : Nat) : Bool :=
  urgency' < urgency || (urgency == urgency' && station < station')

/-- The arbiter's treatment of a START delivered from station n (R125 to R127). -/
def rankStart (s : State) (n : Nat) : State :=
  match s.arb.notice, (s.record n).pending with
  | some own, some p =>
    if outranks p.urgency n own.urgency s.own then settle s 0 (withdrawNotice s)
    else s.setRecord n { s.record n with pending := some { p with yielded := true } }
  | _, _ => s

/-- A start request of dispatch for a channel: taken when the three conditions hold and the channel is IDLE, dropped
otherwise (R120, R122, R145). -/
def startRequest (s : State) (k : Chan) : State :=
  if oneStart s && guardHolds s && powerHolds s k && s.isIn k .idle then
    let p : StartPayload :=
      { channel := chanNum k, urgency := s.alloc.urgency, power := (s.pump k).power, number := s.arb.counter }
    let n : OwnNotice :=
      { channel := k, urgency := p.urgency, power := p.power, number := p.number, phase := .queued }
    let s := moveChan s k (parked (s.chan k) .notice)
    let s := s.setArb { s.arb with notice := some n, counter := (s.arb.counter + 1) % 256 }
    if s.port.state = .active then
      s.setPort { s.port with queue := { s.port.queue with start := some p } }
    else startEnded s p.number
  else s

/-! ## Reception (R29 to R32) -/

/-- Counts a bad frame, sets the last sender to unknown and fills an absent first-error record (R31). -/
def countBad (s : State) (e : ErrorKind) (f : RxFrame) : State :=
  s.setPort { s.port with
    bad := satInc Config.counterMax s.port.bad
    lastSender := none
    firstError :=
      match s.port.firstError with
      | some r => some r
      | none =>
        some { error := e, sender := errorSender f, kind := f.first.data.toNat, time := s.port.seconds } }

/-- Delivers a good frame of a peer to the view and, for a START, on to the arbiter (R30, R60 to R62). -/
def deliver (s : State) (n : Nat) (f : Frame) : State :=
  match f with
  | .stage p => s.setRecord n (acceptStage s.cfg.digest p (s.record n))
  | .quit p => s.setRecord n (acceptQuit p (s.record n))
  | .start p => rankStart (s.setRecord n { s.record n with pending := some (pendingOf s.cfg p) }) n

/-- The entry to LINE_FAULT that a sixteenth loss has put off until the winner's frame has ended (R23). -/
def lossesEnd (pendingFault : Bool) (s : State) : State :=
  if pendingFault && (s.port.state == .listen || s.port.state == .active) then enterLineFault s else s

/-- The end of a received frame: the checks, the counters, the duplicate test and the delivery (R20, R29 to R32). -/
def receiveFrame (s : State) (f : RxFrame) : State :=
  if s.receives then
    let pendingFault := Config.lossLimit ≤ s.port.lossCount
    let s := s.setPort { s.port with idle := some 0 }
    match checkFrame false f with
    | .bad e => lossesEnd pendingFault (countBad s e f)
    | .good n g =>
      let s := s.setPort { s.port with
        good := satInc Config.counterMax s.port.good, lastSender := some n, lossCount := 0 }
      if n = s.own then enterMute s else lossesEnd pendingFault (deliver s n g)
  else s

/-- A frame in progress that an entry into LINE_FAULT cuts ends as a bad FRAMING frame (R20, R25). -/
def cutFrame (s : State) (f : Option RxFrame) : State :=
  match f with
  | some f => if s.port.sync then s else countBad s .framing f
  | none => s

/-! ## Entry to JOINING (R48, R79, R80, R119, R153) -/

/-- The placement of one channel: fitted channels by mode, a channel in FAULT kept (R153). -/
def placeAtJoining (s : State) (k : Chan) : State :=
  if s.fitted k && !s.isIn k .fault then placeByMode s k else s

/-- Entry to JOINING: the listen timer, the scheduler's marks, the allocation unit cleared, the own notice dropped and the
channels placed. The placement comes at this entry, as R119 and R153 say; R135 speaks of it as after the join listen (DESIGN
CHOICE, log entry 39). -/
def enterJoining (s : State) : State :=
  let s0 := s
  let s := s.setSched { s.sched with
    coord := some .joining, listenTimer := some (3 * reportPeriod s.cfg * 1000), reportTimer := none
    prompt := false }
  let s := s.setAlloc .reset
  let s := dropNotice s
  settle s0 0 (forChans placeAtJoining s)

/-! ## Acceptance of a configuration (R181, R58, R66, R99, R105) -/

/-- The fitted channels' numbers in ascending order. -/
def fittedNums (c : StationConfig) : List Nat :=
  (allChans.filter fun k => (quadGet c.pumps k).fitted).map chanNum

/-- A retained list that holds a number twice or a number outside 1 to 4 is discarded (R105). -/
def rotationSound (l : List Nat) : Bool := l.all (fun n => 1 ≤ n && n ≤ 4) && l.Nodup

/-- Settles the rotation list against the fitted channels (R105). -/
def settleRotation (c : StationConfig) (retained : Option (List Nat)) : List Nat :=
  match retained with
  | none => fittedNums c
  | some l =>
    if rotationSound l then
      let kept := l.filter (fun n => (fittedNums c).contains n)
      kept ++ (fittedNums c).filter (fun n => !kept.contains n)
    else fittedNums c

/-- The installed power: the rated power of the fitted channels (R103). -/
def installedPower (c : StationConfig) : Nat :=
  sumChans fun k => if (quadGet c.pumps k).fitted then (quadGet c.pumps k).power else 0

/-- The acceptance: each block takes the configuration by its own rule, a channel that is not fitted loses mode and SELECTOR
flag (R137), and the port is ordered to SELFTEST (R181). -/
def acceptConfig (s : State) (c : StationConfig) : State :=
  let s := s.setCtl { s.ctl with config := some c, step := .selftest }
  let s := s.setPort { s.port with state := .selftest, bitRate := some (bitRateOf c.bitRate), seconds := 0 }
  let s := s.setView { s.view with ageingTimer := some Config.ageingPeriod }
  let s := s.setRecord c.station { s.record c.station with status := .self }
  let s := s.setAllow
    { stage := some c.sClose, known := false, blind := false, allowance := some 0, fixed := some 0, net := some 0,
      candidates := 0 }
  let s := s.setAlloc .reset
  let s := s.setChans (quadOf fun k =>
    if (quadGet c.pumps k).fitted then s.chan k else { s.chan k with mode := none, selector := false })
  s.setDisp { s.disp with
    rotation := some (settleRotation c s.disp.rotation), instPower := some (installedPower c)
    slewTimer := some Config.slewPeriod }

/-- Judges the image buffer: an image that passes is clamped and accepted, one that fails leaves its reason (R177, R179). -/
def judgeImage (s : State) (img : List Byte) : State :=
  match validate (s.ctl.station.getD 0) img with
  | some r => s.setCtl { s.ctl with reason := some r }
  | none => acceptConfig s (configOf img)

end Sys2Proof.Machine
end

