-- ==== Sys2Proof/Machine/Pumps.lean ====
section
/-! DEFINITION. The commands of allocation, dispatch, the start arbiter and the pump channels' timers (chapters 4 to 8). -/

namespace Sys2Proof.Machine

/-! ## The allocation timer and its completion (R67, R81, R95, R106 to R111) -/

/-- The snapshot of an expiry (R67, R81). -/
def takeSnapshot (s : State) : Snapshot :=
  { records := s.view.records
    port := s.port.state
    coord := s.sched.coord
    river := s.acq.pub.river.working
    level := s.acq.pub.polder.working
    degraded := s.acq.pub.degraded
    eHand := s.disp.eHand
    chans := quadOf fun k => ⟨s.fitted k, (s.chan k).mode, s.chanState k, s.qmax k⟩
    lockout := s.disp.lockout }

/-- ALLOCATION_TIMER_EXPIRY: the discharge table is formed, the snapshot is taken, and a change of E_hand by the table has its
results (R81, R101, R103). That the snapshot holds the E_hand formed with this table, and not the one before it, is the
model's choice: R67, R101 and R103 give no order (DESIGN CHOICE, log entry 5). An expiry during a computation, which R81 excludes, begins a
new one, and the computation it cuts off is never published (DESIGN CHOICE, log entry 35). -/
def execAllocationTimerExpiry (s : State) : Host.Outcome State Fault Refusal :=
  .next (if s.alloc.timer.isSome then
      let s0 := s
      let s := reform (formTable s)
      settle s0 0 (s.setAlloc { s.alloc with snapshot := some (takeSnapshot s) })
    else s)

/-- Publishes a computation (R77, R81, R95): Q_tgt is G in COORDINATING and 0 elsewhere. -/
def publishAllocation (s : State) (sn : Snapshot) : State :=
  let e := evaluate s.cfg sn s.allow
  let r := allocate s.cfg sn e
  (s.setAllow e).setAlloc
    { timer := s.alloc.timer, snapshot := none, urgency := r.urgency, cav := r.cav, demand := r.demand,
      share := r.share, qTgt := if s.sched.coord = some .coordinating then r.share else 0,
      isolated := r.isolated }

/-- The number of channels in R (R106). -/
def rCount (s : State) : Nat := sumChans fun k => if s.inR k then 1 else 0

/-- Whether a start of the front-most IDLE channel is permitted (R108). -/
def startPermitted (s : State) (k : Chan) : Bool :=
  0 < s.qmax k && (0 < rCount s || s.qmin k ≤ s.alloc.qTgt) && oneStart s && !s.disp.lockout

/-- The pump-count decision: the first of the four cases whose condition holds (R106 to R110). -/
def decide4 (s : State) : State :=
  let q := s.alloc.qTgt
  if q = 0 then withdrawNotice (forChans stopOrder s)
  else if s.disp.crun < q then
    match frontMost s .idle with
    | some k => if startPermitted s k then startRequest s k else s
    | none => s
  else
    match frontMost s .running with
    | none => s
    | some k =>
      if 2 ≤ rCount s ∧ q ≤ (s.disp.crun - s.qmax k) * 9 / 10 then stopOrder s k
      else if rCount s = 1 ∧ q < s.qmin k then stopOrder s k
      else s

/-- The decision of a completion, and the speed target formed after it (R106, R111). -/
def dispatchAct (s : State) : State := formNt (settle s 0 (decide4 s))

/-- ALLOCATION_COMPLETION: the figures are published, and in COORDINATING and LEAVING dispatch decides (R81, R106); a latch on its
way arrives after a stop order (R117, R151; log entry 33). -/
def execAllocationCompletion (s : State) : Host.Outcome State Fault Refusal :=
  .next (latchesArrive (match s.alloc.snapshot with
    | none => s
    | some sn =>
      let s := publishAllocation s sn
      if s.reporting then dispatchAct s else s))

/-! ## Hold-off (R129, R131) -/

/-- Whether the re-check at the hold-off expiry holds (R129). -/
def recheckHolds (s : State) (k : Chan) : Bool :=
  guardHolds s && powerHolds s k && s.disp.crun < s.alloc.qTgt

/-- HOLD_OFF_EXPIRY (R129): the start order, or the channel back to IDLE. -/
def execHoldOffExpiry (s : State) : Host.Outcome State Fault Refusal :=
  .next (match s.arb.notice with
    | some n =>
      if s.arb.holdOff.isSome then
        let s0 := s
        let ok := recheckHolds s n.channel
        let s := s.setArb { s.arb with notice := none, holdOff := none }
        settle s0 0 (if ok then startOrder s n.channel else backToIdle s n.channel)
      else s
    | none => s)

/-! ## The slew (R112, R113) -/

/-- Moves a reference toward a target by at most one step (R112). -/
def slewToward (step target n : Nat) : Nat := if n ≤ target then min (n + step) target else max (n - step) target

/-- One channel at a slew expiry (R112, R113, R150). -/
def slewChan (s : State) (k : Chan) : State :=
  let c := s.chan k
  match c.state with
  | some .running =>
    match s.disp.nt with
    | some nt => s.setChan k { c with reference := slewToward s.cfg.slewStep nt c.reference }
    | none => s
  | some .starting => s.setChan k { c with reference := (s.pump k).nmin }
  | some .stopping =>
    let n := slewToward s.cfg.slewStep (s.pump k).nmin c.reference
    if n = (s.pump k).nmin then enterResting s k else s.setChan k { c with reference := n }
  | _ => s

/-- SLEW_TIMER_EXPIRY (R112); a latch on its way arrives after the end of a stop (R150; log entry 33). -/
def execSlewTimerExpiry (s : State) : Host.Outcome State Fault Refusal :=
  .next (latchesArrive (if s.disp.slewTimer.isSome then settle s 0 (forChans slewChan s) else s))

/-! ## The start window and the rest (R144, R148, R161) -/

/-- The no-start check fails when a working current lies below I_ul (R161). -/
def noStartFails (s : State) (k : Chan) : Bool :=
  match s.current k with
  | some i => i < (s.pump k).iul
  | none => false

/-- START_WINDOW_EXPIRY: RUNNING, or FAULT with NO_START (R148, R161); a start-limit latch on its way arrives after it, and a
channel in RUNNING takes it, while one in FAULT keeps NO_START (R148; log entry 33). -/
def execStartWindowExpiry (k : Chan) (s : State) : Host.Outcome State Fault Refusal :=
  .next (latchesArrive (if s.isIn k .starting ∧ (s.chan k).window.isSome = true then
      if noStartFails s k then settle s 1 (latchFault s k .noStart)
      else settle s 0 (moveChan s k { s.chan k with state := some .running, window := none })
    else s))

/-- REST_TIMER_EXPIRY: RESTING passes to IDLE (R144). -/
def execRestTimerExpiry (k : Chan) (s : State) : Host.Outcome State Fault Refusal :=
  .next (if s.isIn k .resting ∧ (s.chan k).rest.isSome = true then
      settle s 0 (moveChan s k (parked (s.chan k) .idle))
    else s)

end Sys2Proof.Machine
end

