-- ==== Sys2Proof/Machine/Requests.lean ====
section
/-! DEFINITION. The text of a maintenance request (R185, R186 to R188): words, numbers, and the request a line spells. -/

namespace Sys2Proof.Machine

/-- Carriage return. -/
def charCR : Byte := 0x0D#8
/-- Line feed. -/
def charLF : Byte := 0x0A#8
/-- Space. -/
def charSpace : Byte := 0x20#8

/-- The characters of a word in capitals. -/
def chars (w : String) : List Byte := w.toList.map fun c => BitVec.ofNat 8 c.toNat

/-- Splits a line at its spaces; empty words are dropped, so that leading, trailing and repeated spaces are ignored
(R185). `w` is the word being read. -/
def splitWords (w : List Byte) : List Byte → List (List Byte)
  | [] => if w = [] then [] else [w]
  | c :: rest =>
    if c = charSpace then
      if w = [] then splitWords [] rest else w :: splitWords [] rest
    else splitWords (w ++ [c]) rest

/-- The words of a line. -/
def wordsOf (l : List Byte) : List (List Byte) := splitWords [] l

/-- The value of a decimal digit. -/
def decDigit (c : Byte) : Option Nat :=
  if 48 ≤ c.toNat ∧ c.toNat ≤ 57 then some (c.toNat - 48) else none

/-- The value of a hexadecimal digit, 0 to 9 and A to F. -/
def hexDigit (c : Byte) : Option Nat :=
  match decDigit c with
  | some d => some d
  | none => if 65 ≤ c.toNat ∧ c.toNat ≤ 70 then some (c.toNat - 55) else none

/-- A decimal number read after `n`; no character but digits is taken. -/
def readDecFrom (n : Nat) : List Byte → Option Nat
  | [] => some n
  | c :: rest =>
    match decDigit c with
    | some d => readDecFrom (10 * n + d) rest
    | none => none

/-- A decimal number of at least one digit (R185). -/
def readDec : List Byte → Option Nat
  | [] => none
  | c :: rest => readDecFrom 0 (c :: rest)

/-- A data byte of LOAD: two hexadecimal digits (R185). -/
def readHexByte : List Byte → Option Byte
  | [a, b] =>
    match hexDigit a, hexDigit b with
    | some x, some y => some (BitVec.ofNat 8 (16 * x + y))
    | _, _ => none
  | _ => none

/-- The data bytes of LOAD. -/
def readHexBytes : List (List Byte) → Option (List Byte)
  | [] => some []
  | w :: rest =>
    match readHexByte w, readHexBytes rest with
    | some b, some l => some (b :: l)
    | _, _ => none

/-- The number of data bytes a LOAD takes (R188). -/
def loadCountOk (n : Nat) : Bool := 1 ≤ n && n ≤ 16

/-- A LOAD with its arguments: an offset and one to sixteen data bytes (R188). -/
def readLoad (o : List Byte) (data : List (List Byte)) : Option Request :=
  match readDec o, readHexBytes data with
  | some o, some l => if loadCountOk l.length then some (.load o l) else none
  | _, _ => none

/-- The request that the words of a line spell, or none: an unknown word, a missing or extra argument or a malformed
number (R185). -/
def readRequest (ws : List (List Byte)) : Option Request :=
  match ws with
  | [w] =>
    if w = chars "STATUS" then some .status
    else if w = chars "LINE" then some .line
    else if w = chars "CAUSE" then some .cause
    else if w = chars "LEAVE" then some .leave
    else if w = chars "REJOIN" then some .rejoin
    else none
  | [w, a] =>
    if w = chars "VIEW" then (readDec a).map .view
    else if w = chars "PUMP" then (readDec a).map .pump
    else if w = chars "CLEAR" ∧ a = chars "FAULTS" then some .clearFaults
    else if w = chars "CLEAR" ∧ a = chars "LINE" then some .clearLine
    else if w = chars "LOAD" ∧ a = chars "END" then some .loadEnd
    else none
  | w :: o :: data => if w = chars "LOAD" then readLoad o data else none
  | [] => none

/-- What a completed line holds (R184, R185). -/
def readLine (bad : Bool) (l : List Byte) : CompletedLine :=
  if bad then .syntaxError
  else
    match readRequest (wordsOf l) with
    | some r => .request r
    | none => .syntaxError

end Sys2Proof.Machine
end

