-- ==== Sys2Proof/Machine/Acquire.lean ====
section
/-! DEFINITION. The acquisition unit and what acts on its scans (chapter 1, with R102, R114 to R116, R138 to R143, R159 to
R162, R164 and R51): the scan, the conversions, the publication, the selector samples, the dry-run lockout, the
current checks, and the fault-reset input. -/

namespace Sys2Proof.Machine

/-! ## Conversions (R6 to R9, R13) -/

/-- A recovery that is complete: GOOD with the run as the window, the held value discarded (R9). -/
def levelRecovered (x : LevelInput) (run : List Nat) : LevelInput :=
  { x with state := .good, window := run, bad := 0, run := [], held := none }

/-- A conversion of a HELD input that completes no recovery advances the hold count (R8). -/
def levelHold (x : LevelInput) : LevelInput :=
  let n := x.holdCount + 1
  { x with holdCount := n, state := if Config.holdLimit ≤ n then .substituted else .held }

/-- A good conversion of a level input (R6 to R9). -/
def levelGood (x : LevelInput) (ic : Nat) : LevelInput :=
  match x.state with
  | .init =>
    let w := pushWindow x.window ic
    { x with window := w, bad := 0, state := if Config.windowSize ≤ w.length then .good else .init }
  | .good | .suspect => { x with window := pushWindow x.window ic, bad := 0, state := .good }
  | .held =>
    let run := x.run ++ [ic]
    if Config.windowSize ≤ run.length then levelRecovered x run else levelHold { x with run := run }
  | .substituted =>
    let run := x.run ++ [ic]
    if Config.windowSize ≤ run.length then levelRecovered x run else { x with run := run }

/-- A bad conversion of a level input (R6 to R9); `scale` is absent before a configuration is accepted, and a HELD input
then has no held value (R16). -/
def levelBad (scale : Option LevelScale) (x : LevelInput) : LevelInput :=
  let n := x.bad + 1
  match x.state with
  | .init =>
    if Config.badLimit ≤ n then { x with state := .substituted, bad := n, window := [], run := [], held := none }
    else { x with bad := n }
  | .good => { x with bad := 1, state := .suspect }
  | .suspect =>
    if Config.badLimit ≤ n then
      { x with state := .held, bad := n, held := scale.bind (filteredLevel · x.window), holdCount := 0, run := [] }
    else { x with bad := n }
  | .held => levelHold { x with run := [] }
  | .substituted => { x with run := [] }

/-- One conversion of a level input (R2, R6 to R9). -/
def convertLevel (scale : Option LevelScale) (current : Nat) (x : LevelInput) : LevelInput :=
  let i := measured current
  let x := { x with lastLoop := some i }
  if goodConversion i then levelGood x (clampLoop i) else levelBad scale x

/-- One conversion of a current input (R2, R13). -/
def convertCurrent (current : Nat) (x : CurrentInput) : CurrentInput :=
  let i := measured current
  let x := { x with lastLoop := some i }
  if goodConversion i then
    let ic := clampLoop i
    match x.state with
    | .init =>
      let w := pushWindow x.window ic
      { x with window := w, bad := 0, state := if Config.windowSize ≤ w.length then .good else .init }
    | .good | .suspect => { x with window := pushWindow x.window ic, bad := 0, state := .good }
    | .lost =>
      let run := x.run ++ [ic]
      if Config.windowSize ≤ run.length then { x with state := .good, window := run, bad := 0, run := [] }
      else { x with run := run }
  else
    let n := x.bad + 1
    match x.state with
    | .init =>
      if Config.badLimit ≤ n then { x with state := .lost, bad := n, window := [], run := [] }
      else { x with bad := n }
    | .good => { x with bad := 1, state := .suspect }
    | .suspect =>
      if Config.badLimit ≤ n then { x with state := .lost, bad := n, run := [] } else { x with bad := n }
    | .lost => { x with run := [] }

/-- CONVERSION_END: the conversion is applied to its own input's state (R1, R2). A scan converts AIN0 to AIN6 in that order, so
only the conversion of the input whose turn it is can end (R1; log entry 10). -/
def execConversionEnd (input : Ain) (current : Nat) (s : State) : Host.Outcome State Fault Refusal :=
  .next (if s.acq.scan = some (ainNum input) then
      let n := ainNum input + 1
      let a := { s.acq with scan := some n }
      let c := s.ctl.config
      match input with
      | .polder => s.setAcq { a with polder := convertLevel (c.map (·.polder)) current a.polder }
      | .sump => s.setAcq { a with sump := convertLevel (c.map (·.sump)) current a.sump }
      | .river => s.setAcq { a with river := convertLevel (c.map (·.river)) current a.river }
      | .current k =>
        s.setAcq { a with currents := quadSet a.currents k (convertCurrent current (quadGet a.currents k)) }
    else s)

/-! ## Publication (R10 to R16) -/

/-- The own working value of a level input: filtered in GOOD and SUSPECT, held in HELD (R7, R8, R10 to R12). -/
def ownValue (scale : LevelScale) (x : LevelInput) : Option Int :=
  match x.state with
  | .good | .suspect => filteredLevel scale x.window
  | .held => x.held
  | .init | .substituted => none

/-- The working polder level: the held value stands in SUBSTITUTED too (R10). -/
def polderValue (scale : LevelScale) (x : LevelInput) : Option Int :=
  match x.state with
  | .substituted => x.held
  | _ => ownValue scale x

/-- The degraded indication of the polder input (R10, R16). -/
def polderDegraded (x : LevelInput) : Bool :=
  match x.state with
  | .good | .suspect => false
  | .held => x.held.isNone
  | .init | .substituted => true

/-- The sump substitute (R11). -/
def sumpSubstitute (c : StationConfig) (polder : Option Int) : Int :=
  match polder with
  | some p => clampLevel (p - c.sumpMargin)
  | none => c.dryRun

/-- The head (R15). It has no upper clamp: R15 bounds it at 19998 or 42766, which holds of a sump level from -9999 up, while a
dry-run level may be stored below that and serve as the working sump level (R11, R180). The model follows the formula of R15
there (DESIGN CHOICE, log entry 37). -/
def headOf (river : Option Int) (stage sump : Int) : Nat := (river.getD stage - sump).toNat

/-- A current input as published (R13). -/
def publishCurrent (fs : Nat) (x : CurrentInput) : PubCurrent :=
  { state := x.state, lastLoop := x.lastLoop
    working :=
      match x.state with
      | .good | .suspect => filteredCurrent fs x.window
      | .init | .lost => none }

/-- What a scan completion publishes under an accepted configuration (R10 to R15). -/
def publishWith (c : StationConfig) (stage : Int) (a : Acquisition) : Published :=
  let polder := polderValue c.polder a.polder
  let sump := (ownValue c.sump a.sump).getD (sumpSubstitute c polder)
  let river := ownValue c.river a.river
  { polder := ⟨a.polder.state, polder, a.polder.lastLoop⟩
    sump := ⟨a.sump.state, some sump, a.sump.lastLoop⟩
    river := ⟨a.river.state, river, a.river.lastLoop⟩
    degraded := polderDegraded a.polder
    head := some (headOf river stage sump)
    currents := quadOf fun k => publishCurrent (quadGet c.pumps k).fs (quadGet a.currents k) }

/-- What a scan completion publishes before an acceptance: states and last loop currents alone (R16). -/
def publishBare (a : Acquisition) : Published :=
  { polder := ⟨a.polder.state, none, a.polder.lastLoop⟩
    sump := ⟨a.sump.state, none, a.sump.lastLoop⟩
    river := ⟨a.river.state, none, a.river.lastLoop⟩
    degraded := true
    head := none
    currents := quadOf fun k => ⟨(quadGet a.currents k).state, none, (quadGet a.currents k).lastLoop⟩ }

/-- The publication of a scan completion (R1, R16). -/
def publish (s : State) : State :=
  let pub :=
    match s.ctl.config with
    | some c => publishWith c (s.allow.stage.getD c.sClose) s.acq
    | none => publishBare s.acq
  s.setAcq { s.acq with scan := none, pub := pub }

/-! ## Dry-run lockout (R114 to R116) -/

/-- The lockout at a scan completion: set at or below the dry-run level with its orders, cleared 200 mm above it. -/
def judgeLockout (s : State) : State :=
  match s.acq.pub.sump.working with
  | none => s
  | some level =>
    if s.disp.lockout then
      if s.cfg.dryRun + Config.lockoutBand ≤ level then s.setDisp { s.disp with lockout := false } else s
    else if level ≤ s.cfg.dryRun then
      withdrawNotice (forChans dryRunOrder (s.setDisp { s.disp with lockout := true }))
    else s

/-! ## Selector samples (R138, R139) -/

/-- The channel after one sample: two agreeing samples change the debounced combination (R138), and with it mode and flag (R139).
For a channel that is left out the combination is formed and not used (R137, R138). -/
def takeSample (leftOut : Bool) (c : Channel) (x : Combination) : Channel :=
  let c := { c with sample := some x, sample2 := c.sample }
  if c.sample2 = some x ∧ c.combination ≠ x then
    if leftOut then { c with combination := x }
    else { c with combination := x, mode := some (modeOf x), selector := selectorOf x }
  else c

/-- Whether a sample changes the mode of a fitted channel. -/
def modeChanges (s : State) (contacts : Quad Contacts) (k : Chan) : Bool :=
  s.fitted k && (takeSample false (s.chan k) (readContacts (quadGet contacts k))).mode != (s.chan k).mode

/-! ## Samples of the fault-reset input (R164) -/

/-- The debounced level after a sample list (newest first): five equal samples form or change it. -/
def debounced (samples : List Bool) (level : Option Bool) : Option Bool :=
  if samples = [true, true, true, true, true] then some true
  else if samples = [false, false, false, false, false] then some false
  else level

/-- A sample of the fault-reset input that makes a rising edge: it takes the formed debounced level from inactive to active
(R164). -/
def risingEdge (s : State) (active : Bool) : Bool :=
  s.sup.level == some false && debounced ((active :: s.sup.samples).take 5) s.sup.level == some true

/-! ## Events that meet a latch (R148, R150, R151, R165) -/

/-- Whether an allocation completion would stop a channel (R107, R109, R110, R117). -/
def completionStops (s : State) (k : Chan) : Bool :=
  match s.alloc.snapshot with
  | some sn => s.reporting && s.inR k && (decide4 (publishAllocation (reform s) sn)).isIn k .stopping
  | none => false

/-- Whether a slew expiry would end the stop of a channel (R113, R150). -/
def slewEndsStop (s : State) (k : Chan) : Bool :=
  s.disp.slewTimer.isSome && s.isIn k .stopping
    && slewToward s.cfg.slewStep (s.pump k).nmin (s.chan k).reference == (s.pump k).nmin

/-- Whether an event, taken now, has a CLEAR FAULTS executed: the request on an idle port, the CR that completes its line there, or
the end of the response that held it back (R165, R184). -/
def executesClear (s : State) : Instr → Bool
  | .clearFaults => s.portOpen && s.maint.held.isNone && s.maint.response.isNone
  | .characterReceived c stopLow =>
    s.portOpen && s.maint.held.isNone && s.maint.response.isNone && c == charCR
      && readLine (s.maint.badLine || stopLow) s.maint.buffer == .request .clearFaults
  | .responseEnd => s.maint.response.isSome && s.maint.held == some (.request .clearFaults)
  | _ => false

/-- Whether an event, taken now, is one of those that may fall together with a fault latch of a channel: the end of its start window
(R148), an order that stops it (R117, R148, R151), the end of its stop (R150), its mode change to OFF or HAND (R151), and a clear
of the latches by the reset input or by an executed CLEAR FAULTS (R165). An event that would not act so is none of them. -/
def meetsLatch (s : State) (k : Chan) : Instr → Bool
  | .startWindowExpiry j => j == k && s.isIn k .starting && (s.chan k).window.isSome
  | .allocationCompletion => completionStops s k
  | .slewTimerExpiry => slewEndsStop s k
  | .scanTimerExpiry contacts =>
    s.acq.scanTimer.isSome && modeChanges s contacts k
      && (takeSample false (s.chan k) (readContacts (quadGet contacts k))).mode != some .auto
  | .faultResetSample active => !s.ctl.resetHeld && risingEdge s active
  | c => executesClear s c

/-- Whether the event that waits next is taken before a latch that a count offers now. Only an event that meets the latch falls in
its instant; either may then be taken first, and a free value tells which (log entry 33). Otherwise the latch is at once. -/
def State.latchWaits (s : State) (k : Chan) : Bool :=
  match s.pending with
  | c :: _ => meetsLatch s k c && Config.latchWaits (chanNum k) ((s.current k).getD 0)
  | [] => false

/-- A latch that a count offers to its channel: it reaches the channel at once, or the event of the same instant is taken first
(R148, R150, R151, R162, R165). -/
def offerLatch (s : State) (k : Chan) (kind : FaultKind) : State :=
  if s.latchWaits k then
    s.setSup { s.sup with offered := quadSet s.sup.offered k (some kind) }
  else latchFault s k kind

/-! ## Current checks (R158 to R162) -/

/-- A count advances while its condition holds and stops at N; otherwise it is 0 (R159). -/
def advance (n : Nat) (holds : Bool) (count : Nat) : Nat := if holds then min (count + 1) n else 0

/-- The counts of one channel at a scan completion (R159, R160), by the state that the channel holds when it is taken. -/
def watchCounts (s : State) (k : Chan) : Watch :=
  let w := quadGet s.sup.watch k
  let p := s.pump k
  let n := deglitchScans p
  match s.current k with
  | none => { w with overcurrent := 0, startLimit := 0, underload := 0 }
  | some i =>
    { w with
      overcurrent := advance n ((s.isIn k .running || s.isIn k .stopping) && p.ioc < i) w.overcurrent
      startLimit := advance n (s.isIn k .starting && p.istart < i) w.startLimit
      underload := advance n (s.isIn k .running && i < p.iul) w.underload }

/-- The fault that counts latch when one reaches N, OVERCURRENT before UNDERLOAD (R162). -/
def faultOf (n : Nat) (w : Watch) : Option FaultKind :=
  if n ≤ w.overcurrent || n ≤ w.startLimit then some .overcurrent
  else if n ≤ w.underload then some .underload
  else none

/-- The current checks of one fitted channel at a scan completion (R159, R162). -/
def superviseChan (s : State) (k : Chan) : State :=
  if s.fitted k then
    let w := watchCounts s k
    let s := s.setSup { s.sup with watch := quadSet s.sup.watch k w }
    match faultOf (deglitchScans (s.pump k)) w with
    | some kind => offerLatch s k kind
    | none => s
  else s

/-! ## River side (R51) -/

/-- The side of S_close on which a stage lies. -/
def sideOf (c : StationConfig) (stage : Int) : RiverSide := if c.sClose ≤ stage then .atOrAbove else .below

/-- Whether the usable own river stage has changed side (R51). -/
def crossed (s : State) : Bool :=
  match s.acq.pub.river.working, s.sched.riverSide with
  | some z, some side => sideOf s.cfg z != side
  | _, _ => false

/-- The held river side follows the usable own river stage from the hand-over on; before it there is none (R47, R51). -/
def followRiver (s : State) : State :=
  match s.acq.pub.river.working with
  | some z => if s.sched.coord.isSome then s.setSched { s.sched with riverSide := some (sideOf s.cfg z) } else s
  | none => s

/-- SCAN_COMPLETION, once all seven inputs are converted: publication, then (with a configuration) the first discharge table,
the hand-running judgement, the lockout, the current checks and the river side, and the prompt causes they raise (R1, R51,
R101, R102, R114, R159; log entry 5). -/
def execScanCompletion (s : State) : Host.Outcome State Fault Refusal :=
  .next (if s.acq.scan = some Config.inputs then
      let s0 := s
      let s := publish s
      match s.ctl.config with
      | none => s
      | some _ =>
        let s := if s.disp.table.isNone then formTable s else s
        let s := judgeLockout (judgeHand s)
        let s := forChans superviseChan s
        let causes := (faultCount s - faultCount s0) + (if crossed s then 1 else 0)
        settle s0 causes (followRiver s)
    else s)

/-! ## Selectors (R141 to R143) -/

/-- A mode change acts on the state the channel holds (R141 to R143, R152). A NOTICE left by a mode change withdraws the own
notice (R128). -/
def modeChange (s : State) (k : Chan) : State :=
  match s.chanState k with
  | none | some .fault => s
  | some x =>
    let s := if x = .notice && (s.chan k).mode != some .auto then dropNotice s else s
    match (s.chan k).mode with
    | some .off => moveChan s k (parked (s.chan k) .disabled)
    | some .hand => moveChan s k (parked (s.chan k) .inLocal)
    | some .auto => if x = .disabled || x = .inLocal then enterResting s k else s
    | none => s

/-- SCAN_TIMER_EXPIRY: a scan begins, and the selectors of all channels are sampled (R1, R138). Each expiry begins a scan at
AIN0, also one that the model lets come while a scan is in progress (log entry 10). A latch still on its way arrives after the
mode changes (R151; log entry 33). -/
def execScanTimerExpiry (contacts : Quad Contacts) (s : State) : Host.Outcome State Fault Refusal :=
  .next (latchesArrive (if s.acq.scanTimer.isSome then
      let s0 := s
      let s := s.setAcq { s.acq with scan := some 0 }
      let s := s.setChans (quadOf fun k => takeSample (s.leftOut k) (s.chan k) (readContacts (quadGet contacts k)))
      if anyChan (modeChanges s0 contacts) then
        settle s0 0 (forChans (fun s k => if modeChanges s0 contacts k then modeChange s k else s) s)
      else s
    else s))

/-! ## The fault-reset input (R164, R165) -/

/-- FAULT_RESET_SAMPLE: sampled from the release of the reset; a rising edge clears the latches (R164). -/
def execFaultResetSample (active : Bool) (s : State) : Host.Outcome State Fault Refusal :=
  .next (if s.ctl.resetHeld then s
    else
      let edge := risingEdge s active
      let samples := (active :: s.sup.samples).take 5
      let s := s.setSup { s.sup with samples := samples, level := debounced samples s.sup.level }
      if edge then clearFaultLatches s else s)

end Sys2Proof.Machine
end

