-- ==== Sys2Proof/Machine/Line.lean ====
section
/-! DEFINITION. The commands of the line port and of the peer view (chapters 2 and 3): slots, contention, LINE_FAULT,
transmissions, received frames, the seconds count and the ageing timer. -/

namespace Sys2Proof.Machine

/-- RECEIVER_SYNC: the idle time is 14 and frames are taken from now on (R38). -/
def execReceiverSync (s : State) : Host.Outcome State Fault Refusal :=
  .next (if s.port.sync then s.setPort { s.port with sync := false, idle := some Config.idleGap } else s)

/-- The first queued frame, in the order START, STAGE, QUIT (R22). -/
def firstQueued (q : TxQueue) : Option Frame :=
  match q.start, q.stage, q.quit with
  | some p, _, _ => some (.start p)
  | none, some p, _ => some (.stage p)
  | none, none, some p => some (.quit p)
  | none, none, none => none

/-- The queue without the frame of a kind. -/
def dequeue (q : TxQueue) : Frame → TxQueue
  | .start _ => { q with start := none }
  | .stage _ => { q with stage := none }
  | .quit _ => { q with quit := none }

/-- A transmission begins: the frame leaves the queue, and the arbiter learns that its START is on the line (R22, R123). -/
def beginFrame (s : State) (f : Frame) : State :=
  let s := s.setPort { s.port with
    queue := dequeue s.port.queue f, tx := some { frame := f, withdrawn := false }, idle := none }
  match f with
  | .start p => startPhase s p.number .onLine
  | .stage _ | .quit _ => s

/-- SLOT_START: at one of the station's slots, ACTIVE with a queued frame and a recessive line, the first queued frame begins
(R21, R22). -/
def execSlotStart (idle : Nat) (dominant : Bool) (s : State) : Host.Outcome State Fault Refusal :=
  .next (if s.port.state = .active ∧ s.port.tx = none ∧ s.port.sync = false
      ∧ isSlot s.own s.port.lastSender idle = true then
      match firstQueued s.port.queue with
      | none => s
      | some f =>
        let s := s.setPort { s.port with idle := some idle }
        if dominant then s else beginFrame s f
    else s)

/-- Whether a lost frame is discarded instead of returned to the queue: withdrawn, or a newer frame of its kind is queued
(R23). -/
def lostForGood (q : TxQueue) (t : TxFrame) : Bool :=
  t.withdrawn ||
    match t.frame with
    | .start _ => q.start.isSome
    | .stage _ => q.stage.isSome
    | .quit _ => q.quit.isSome

/-- The queue with a lost frame back at the place of its kind (R23). -/
def requeue (q : TxQueue) : Frame → TxQueue
  | .start p => { q with start := some p }
  | .stage p => { q with stage := some p }
  | .quit p => { q with quit := some p }

/-- The report on a frame returned to the queue (R23, R52, R123). -/
def reportReturned (s : State) (f : Frame) : State :=
  match f with
  | .start p => startPhase s p.number .queued
  | .stage _ => stageLost s
  | .quit _ => s

/-- CONTENTION_LOSS (R23). The entry to LINE_FAULT of a sixteenth loss waits for the end of the winner's frame. -/
def execContentionLoss (s : State) : Host.Outcome State Fault Refusal :=
  .next (match s.port.tx with
    | none => s
    | some t =>
      let s := s.setPort { s.port with
        losses := satInc Config.counterMax s.port.losses
        lossCount := satInc Config.lossLimit s.port.lossCount
        lastSender := none
        tx := none }
      if lostForGood s.port.queue t then reportDiscarded s true t.frame
      else reportReturned (s.setPort { s.port with queue := requeue s.port.queue t.frame }) t.frame)

/-- DRIVE_FAILURE (R25). -/
def execDriveFailure (partialFrame : Option RxFrame) (s : State) : Host.Outcome State Fault Refusal :=
  .next (if s.port.state = .active ∧ s.port.tx.isSome = true then
      enterLineFault (cutFrame (s.setPort { s.port with idle := none }) partialFrame)
    else s)

/-- STUCK_LINE (R25): LISTEN and ACTIVE enter LINE_FAULT; in every other state nothing changes. -/
def execStuckLine (partialFrame : Option RxFrame) (s : State) : Host.Outcome State Fault Refusal :=
  .next (if s.port.state = .listen ∨ s.port.state = .active then
      enterLineFault (cutFrame (s.setPort { s.port with idle := none }) partialFrame)
    else s)

/-- LINE_FAULT_TIMER_EXPIRY: renewed while the line is stuck; otherwise LISTEN when JOINING, ACTIVE else (R26). -/
def execLineFaultTimerExpiry (stuck : Bool) (s : State) : Host.Outcome State Fault Refusal :=
  .next (if s.port.state = .lineFault ∧ s.port.lineFaultTimer.isSome = true then
      if stuck then
        s.setPort { s.port with
          lineFaults := satInc Config.counterMax s.port.lineFaults, lineFaultTimer := some Config.lineFaultPeriod }
      else
        s.setPort { s.port with
          state := if s.sched.coord = some .joining then .listen else .active, lineFaultTimer := none }
    else s)

/-- The scheduler's answer to a completed STAGE: the spacing timer starts, and the restart mark clears when the frame carried
RESTARTED (R44, R52, R53). -/
def stageCompleted (s : State) (p : StagePayload) : State :=
  s.setSched { s.sched with
    spacingTimer := some Config.spacingPeriod, restart := s.sched.restart && !p.flags.restarted }

/-- TRANSMISSION_COMPLETE (R24): the report goes to the arbiter or to the scheduler (R53, R123). -/
def execTransmissionComplete (s : State) : Host.Outcome State Fault Refusal :=
  .next (match s.port.tx with
    | none => s
    | some t =>
      let s := s.setPort { s.port with lastSender := some s.own, lossCount := 0, idle := some 0, tx := none }
      match t.frame with
      | .start p => startEnded s p.number
      | .stage p => stageCompleted s p
      | .quit _ => quitEnded s)

/-- STAGE_REPORT_RECEIVED: the port judges the frame as it arrived (R29, R30, R60). -/
def execStageReportReceived (frame : RxFrame) (s : State) : Host.Outcome State Fault Refusal :=
  .next (receiveFrame s frame)

/-- START_NOTICE_RECEIVED: the port judges the frame as it arrived (R29, R30, R62, R125). -/
def execStartNoticeReceived (frame : RxFrame) (s : State) : Host.Outcome State Fault Refusal :=
  .next (receiveFrame s frame)

/-- QUIT_NOTICE_RECEIVED: the port judges the frame as it arrived (R29, R30, R61). -/
def execQuitNoticeReceived (frame : RxFrame) (s : State) : Host.Outcome State Fault Refusal :=
  .next (receiveFrame s frame)

/-- BAD_FRAME: the port judges the frame as it arrived (R29, R31). -/
def execBadFrame (frame : RxFrame) (s : State) : Host.Outcome State Fault Refusal :=
  .next (receiveFrame s frame)

/-- SECONDS_TICK: runs once the port has left OFF (R33, R36). -/
def execSecondsTick (s : State) : Host.Outcome State Fault Refusal :=
  .next (if s.port.state = .off then s
    else s.setPort { s.port with seconds := satInc Config.counterMax s.port.seconds })

/-- AGEING_TIMER_EXPIRY: ages, statuses and pending-start countdowns (R62, R63). -/
def execAgeingTimerExpiry (s : State) : Host.Outcome State Fault Refusal :=
  .next (if s.view.ageingTimer.isSome then
      s.setView { s.view with records := s.view.records.map (ageRecord (reportPeriod s.cfg)) }
    else s)

end Sys2Proof.Machine
end

