-- ==== Sys2Proof/Machine/Maintenance.lean ====
section
/-! DEFINITION. The maintenance port (chapter 11): what each request does and answers, the line buffer, the held line, and the
rows of the requests. -/

namespace Sys2Proof.Machine

/-! ## Read requests (R186) -/

/-- STATUS (R186). -/
def statusReport (s : State) : StatusReport :=
  { state :=
      match s.sched.coord with
      | some c => .coord c
      | none => .step s.ctl.step
    clock := s.ctl.clock
    port := s.port.state
    reason := s.ctl.reason
    alarm := alarmOutput s
    causes := alarmCauses s
    stage := s.allow.stage
    blind := s.allow.blind
    cand := s.allow.candidates
    a := s.allow.allowance
    f := s.allow.fixed
    net := s.allow.net
    urgency := s.alloc.urgency
    cav := s.alloc.cav
    demand := s.alloc.demand
    share := s.alloc.share
    qTgt := s.alloc.qTgt
    isolated := s.alloc.isolated
    nt := s.disp.nt
    crun := s.disp.crun
    dry := s.disp.lockout
    flags := reportFlags s
    polder := s.acq.pub.polder
    sump := s.acq.pub.sump
    river := s.acq.pub.river }

/-- The place of a channel in the rotation list (R104, R186), counted from 1: the rules give it no base (DESIGN CHOICE, log entry
40). -/
def listPosition (s : State) (k : Chan) : Option Nat :=
  match s.disp.rotation with
  | none => none
  | some l => if l.contains (chanNum k) then some (l.idxOf (chanNum k) + 1) else none

/-- The discharge table's entry of a channel; absent until the table is first formed (R101, R186). -/
def tableEntry (s : State) (k : Chan) : Option Discharge := s.disp.table.bind (quadGet · k)

/-- PUMP k (R186). -/
def pumpReport (s : State) (k : Chan) : PumpReport :=
  let c := s.chan k
  let w := quadGet s.sup.watch k
  { k := chanNum k
    fit := s.ctl.config.map fun x => (quadGet x.pumps k).fitted
    figures :=
      if s.fitted k then
        some
          { mode := c.mode, selector := c.selector, state := c.state, fault := w.latch, reference := c.reference,
            qmax := (tableEntry s k).map (·.qmax), qmin := (tableEntry s k).map (·.qmin)
            position := listPosition s k, oc := w.overcurrent, sl := w.startLimit, ul := w.underload }
      else none
    current := quadGet s.acq.pub.currents k }

/-- ST of LINE (R186). -/
def selfTestShown (s : State) : SelfTestShown :=
  match s.port.selfTest with
  | some r => .record r
  | none => if s.port.state = .off ∨ s.port.state = .selftest then .notYet else .pass

/-- LINE (R33, R186). -/
def lineReport (s : State) : LineReport :=
  { good := s.port.good, bad := s.port.bad, losses := s.port.losses, lineFaults := s.port.lineFaults,
    firstError := s.port.firstError, selfTest := selfTestShown s }

/-- CAUSE (R186). -/
def causeReport (s : State) : CauseReport :=
  { cause := s.ctl.cause, warmCount := s.ctl.warmCount, reason := s.ctl.reason }

/-! ## What each request does (R187, R188) -/

/-- Sets the response being sent. -/
def respond (s : State) (r : Response) : State := s.setMaint { s.maint with response := some r }

/-- An error response. -/
def respondErr (s : State) (e : ErrorCode) : State := respond s (.err e none)

/-- VIEW n (R186). -/
def doView (s : State) (n : Nat) : State :=
  if 1 ≤ n ∧ n ≤ Config.stations then respond s (.view n (s.record n)) else respondErr s .errRange

/-- PUMP k (R186). -/
def doPump (s : State) (k : Nat) : State :=
  match chanOfNum k with
  | some c => respond s (.pump (pumpReport s c))
  | none => respondErr s .errRange

/-- CLEAR LINE: the four counters and the first-error record (R33). -/
def doClearLine (s : State) : State :=
  respond (s.setPort { s.port with good := 0, bad := 0, losses := 0, lineFaults := 0, firstError := none }) .ok

/-- LEAVE: LEAVING, Q_tgt 0, a prompt cause, and the QUIT test (R54, R55, R95). -/
def doLeave (s : State) : State :=
  if s.sched.coord = some .coordinating then
    let s := s.setSched { s.sched with coord := some .leaving }
    let s := s.setAlloc { s.alloc with qTgt := 0 }
    respond (quitTest (promptCause s)) .ok
  else respondErr s .errState

/-- The order for LISTEN of a REJOIN: taken from ACTIVE alone (R38, R57). -/
def orderListen (s : State) : State := if s.port.state = .active then leaveActive s .listen else s

/-- REJOIN: the river side is cleared, the port ordered to LISTEN, and JOINING entered (R57). -/
def doRejoin (s : State) : State :=
  if s.sched.coord = some .left then
    let s := s.setSched { s.sched with riverSide := none }
    respond (enterJoining (orderListen s)) .ok
  else respondErr s .errState

/-- The image buffer with bytes written from an offset (R179). -/
def writeBytes (img : List Byte) (offset : Nat) (bytes : List Byte) : List Byte :=
  img.take offset ++ bytes ++ img.drop (offset + bytes.length)

/-- LOAD (R179, R185, R188): syntax, state, range, then the write. -/
def doLoad (s : State) (offset : Nat) (bytes : List Byte) : State :=
  if !loadCountOk bytes.length then respondErr s .errSyntax
  else if s.ctl.step ≠ .configWait then respondErr s .errState
  else if 127 < offset ∨ 128 < offset + bytes.length then respondErr s .errRange
  else
    let img := s.ctl.image.getD (List.replicate Config.imageSize 0x00#8)
    respond (s.setCtl { s.ctl with image := some (writeBytes img offset bytes) }) .ok

/-- LOAD END (R179, R188): OK with the acceptance, or ERR STATE with the failure reason. -/
def doLoadEnd (s : State) : State :=
  if s.ctl.step ≠ .configWait then respondErr s .errState
  else
    let img := s.ctl.image.getD (List.replicate Config.imageSize 0x00#8)
    let s := judgeImage s img
    if s.ctl.step = .configWait then respond s (.err .errState s.ctl.reason) else respond s .ok

/-- Executes a request (R186 to R188). -/
def execute (s : State) (r : Request) : State :=
  match r with
  | .status => respond s (.status (statusReport s))
  | .view n => doView s n
  | .pump k => doPump s k
  | .line => respond s (.line (lineReport s))
  | .cause => respond s (.cause (causeReport s))
  | .clearFaults => respond (clearFaultLatches s) .ok
  | .clearLine => doClearLine s
  | .leave => doLeave s
  | .rejoin => doRejoin s
  | .load o l => doLoad s o l
  | .loadEnd => doLoadEnd s

/-- Executes a completed line. -/
def executeLine (s : State) (l : CompletedLine) : State :=
  match l with
  | .syntaxError => respondErr s .errSyntax
  | .request r => execute s r

/-- A completed line: executed, or held while a response is being sent (R184). -/
def submitLine (s : State) (l : CompletedLine) : State :=
  if s.maint.response.isSome then s.setMaint { s.maint with held := some l } else executeLine s l

/-- A request that reaches the port whole: nothing before the end of CLOCKSTART; discarded while a line is held (R184; log
entry 9). -/
def submitRequest (s : State) (r : Request) : State :=
  if s.portOpen && s.maint.held.isNone then submitLine s (.request r) else s

/-! ## Characters (R184) -/

/-- CR completes the line (R184). The two rows of the table that a blank line with the bad-line mark meets are settled by a free
value (log entry 12). -/
def completeLine (s : State) : State :=
  let l := s.maint.buffer
  let bad := s.maint.badLine
  let s := s.setMaint { s.maint with buffer := [], badLine := false }
  if l.all (· == charSpace) && (!bad || Config.blankBadLineIgnored) then s else submitLine s (readLine bad l)

/-- Sets the bad-line mark. -/
def markBad (s : State) : State := s.setMaint { s.maint with badLine := true }

/-- Appends a character; a 65th sets the mark and is not stored (R184). -/
def appendChar (s : State) (c : Byte) : State :=
  if s.maint.buffer.length < Config.lineBufferSize then
    s.setMaint { s.maint with buffer := s.maint.buffer ++ [c] }
  else markBad s

/-- CHARACTER_RECEIVED (R184). -/
def execCharacterReceived (c : Byte) (stopLow : Bool) (s : State) : Host.Outcome State Fault Refusal :=
  .next (if s.portOpen && s.maint.held.isNone then
      let s := if stopLow then markBad s else s
      if c = charCR then completeLine s
      else if c = charLF || stopLow then s
      else appendChar s c
    else s)

/-- RESPONSE_END: the held line is executed (R184). -/
def execResponseEnd (s : State) : Host.Outcome State Fault Refusal :=
  .next (if s.maint.response.isSome then
      let held := s.maint.held
      let s := s.setMaint { s.maint with response := none, held := none }
      match held with
      | some l => executeLine s l
      | none => s
    else s)

/-! ## The rows of the requests -/

/-- STATUS (R186). -/
def execStatus (s : State) : Host.Outcome State Fault Refusal := .next (submitRequest s .status)
/-- VIEW n (R186). -/
def execView (n : Nat) (s : State) : Host.Outcome State Fault Refusal := .next (submitRequest s (.view n))
/-- PUMP k (R186). -/
def execPump (k : Nat) (s : State) : Host.Outcome State Fault Refusal := .next (submitRequest s (.pump k))
/-- LINE (R186). -/
def execLine (s : State) : Host.Outcome State Fault Refusal := .next (submitRequest s .line)
/-- CAUSE (R186). -/
def execCause (s : State) : Host.Outcome State Fault Refusal := .next (submitRequest s .cause)
/-- CLEAR FAULTS (R165, R187). -/
def execClearFaults (s : State) : Host.Outcome State Fault Refusal := .next (submitRequest s .clearFaults)
/-- CLEAR LINE (R33, R187). -/
def execClearLine (s : State) : Host.Outcome State Fault Refusal := .next (submitRequest s .clearLine)
/-- LEAVE (R54, R187). -/
def execLeave (s : State) : Host.Outcome State Fault Refusal := .next (submitRequest s .leave)
/-- REJOIN (R57, R187). -/
def execRejoin (s : State) : Host.Outcome State Fault Refusal := .next (submitRequest s .rejoin)
/-- LOAD o b1 b2 … (R179, R188). -/
def execLoad (offset : Nat) (bytes : List Byte) (s : State) : Host.Outcome State Fault Refusal :=
  .next (submitRequest s (.load offset bytes))
/-- LOAD END (R179, R188). -/
def execLoadEnd (s : State) : Host.Outcome State Fault Refusal := .next (submitRequest s .loadEnd)

end Sys2Proof.Machine
end

