-- ==== Sys2Proof/Machine/Reports.lean ====
section
/-! DEFINITION. The timer commands of the report scheduler (chapter 3): the end of the join listen, the report timer and the
spacing timer. -/

namespace Sys2Proof.Machine

/-- The order for ACTIVE at the end of the join listen: taken from LISTEN alone (R39, R49). -/
def orderActive (s : State) : State :=
  if s.port.state = .listen then s.setPort { s.port with state := .active } else s

/-- LISTEN_TIMER_EXPIRY: the port is ordered ACTIVE, the discharge table is formed, the first STAGE is composed, the allocation
timer starts and the station enters COORDINATING (R49, R80, R101). -/
def execListenTimerExpiry (s : State) : Host.Outcome State Fault Refusal :=
  .next (if s.sched.coord = some .joining ∧ s.sched.listenTimer.isSome = true then
      let s0 := s
      let s := orderActive s
      let s := settle s0 0 (formTable s)
      let s := composeStage s
      let s := s.setAlloc { s.alloc with timer := some Config.allocationPeriod }
      s.setSched { s.sched with coord := some .coordinating, listenTimer := none }
    else s)

/-- REPORT_TIMER_EXPIRY (R50). -/
def execReportTimerExpiry (s : State) : Host.Outcome State Fault Refusal :=
  .next (if s.reporting ∧ s.sched.reportTimer.isSome = true then composeStage s else s)

/-- SPACING_TIMER_EXPIRY: a pending prompt report is composed (R52). -/
def execSpacingTimerExpiry (s : State) : Host.Outcome State Fault Refusal :=
  .next (if s.sched.spacingTimer.isSome then
      let s := s.setSched { s.sched with spacingTimer := none }
      if s.reporting && s.sched.prompt then composeStage s else s
    else s)

end Sys2Proof.Machine
end

