-- ==== Sys2Proof/Machine/Startup.lean ====
section
/-! DEFINITION. The commands of the start-up controller (chapter 10): the three resets, the release, the clock start, the
clock monitor, the serial memory read, and the end of the self-test. -/

namespace Sys2Proof.Machine

/-- Every block at its reset value, with the retained rotation list given and the queue of commands kept; the
controller is given whole (R17, R41, R47, R58, R66, R79, R99, R119, R137, R157, R183, R184). -/
def resetBlocks (s : State) (ctl : Controller) (rotation : Option (List Nat)) : State :=
  { State.reset with ctl := ctl, disp := .afterReset rotation, pending := s.pending }

/-- Passes to CLOCKSTART: the crystal is enabled (R172, R173). -/
def enterClockstart (s : State) : State :=
  s.setCtl { s.ctl with step := .clockstart, crystalOn := true }

/-- POWER_ON: the retained items are lost, the record reads POWER_ON with count 0, and the power-up delay starts
(R170 to R172, R183). An RSTN that is low goes on holding the part in reset. -/
def execPowerOn (s : State) : Host.Outcome State Fault Refusal :=
  .next (resetBlocks s
    { Controller.reset with resetHeld := true, external := s.ctl.external } none)

/-- BROWN_OUT: asserted once until the supply rises through 2.95 V; it stops the delay timer (R170 to R172). -/
def execBrownOut (s : State) : Host.Outcome State Fault Refusal :=
  .next (if s.ctl.brownOut then s
    else resetBlocks s
      { Controller.reset with
        resetHeld := true, brownOut := true, external := s.ctl.external, cause := .brownOut
        warmCount := satInc 255 s.ctl.warmCount, delay := .stopped } s.disp.rotation)

/-- EXTERNAL_RESET: neither stops nor starts the delay timer (R170 to R172). -/
def execExternalReset (s : State) : Host.Outcome State Fault Refusal :=
  .next (resetBlocks s
    { Controller.reset with
      resetHeld := true, brownOut := s.ctl.brownOut, external := true, cause := .external
      warmCount := satInc 255 s.ctl.warmCount, delay := s.ctl.delay } s.disp.rotation)

/-- RESET_RELEASE: POWERUP while the delay runs, CLOCKSTART at once when it has ended (R172). While the supply still
holds a BROWN_OUT the part does not leave reset (R170). -/
def execResetRelease (s : State) : Host.Outcome State Fault Refusal :=
  .next (if s.ctl.resetHeld && !s.ctl.brownOut then
      let s := s.setCtl { s.ctl with resetHeld := false, external := false }
      if s.ctl.delay = .ended then enterClockstart s else s
    else s)

/-- POWER_UP_DELAY_EXPIRY (R172): out of reset, POWERUP passes to CLOCKSTART. -/
def execPowerUpDelayExpiry (s : State) : Host.Outcome State Fault Refusal :=
  .next (if s.ctl.delay = .running then
      let s := s.setCtl { s.ctl with delay := .ended }
      if !s.ctl.resetHeld && s.ctl.step == .powerup then enterClockstart s else s
    else s)

/-- BROWN_OUT_END: the delay timer starts again for its full time (R170, R172). -/
def execBrownOutEnd (s : State) : Host.Outcome State Fault Refusal :=
  .next (if s.ctl.brownOut then s.setCtl { s.ctl with brownOut := false, delay := .running } else s)

/-- Entry to CONFIG_LOAD: the straps are sampled, and the serial memory is read or CONFIG_WAIT is entered with a buffer of
0x00 and the reason NO_IMAGE (R175). -/
def enterConfigLoad (s : State) (straps : Straps) : State :=
  let s := s.setCtl { s.ctl with
    station := some straps.stn.toNat, source := some straps.csrc.toNat, step := .configLoad }
  if sourceIsPort straps.csrc.toNat then
    s.setCtl { s.ctl with
      image := some (List.replicate Config.imageSize 0x00#8), reason := some .noImage, step := .configWait }
  else s

/-- The end of CLOCKSTART: the scan timer starts, and the controller passes to CONFIG_LOAD (R173). -/
def endClockstart (s : State) (straps : Straps) : State :=
  enterConfigLoad (s.setAcq { s.acq with scanTimer := some Config.scanPeriod }) straps

/-- CRYSTAL_START (R173). -/
def execCrystalStart (straps : Straps) (s : State) : Host.Outcome State Fault Refusal :=
  .next (if !s.ctl.resetHeld && s.ctl.step == .clockstart then
      endClockstart (s.setCtl { s.ctl with clock := some .crystal, monitor := true }) straps
    else s)

/-- CLOCK_START_WINDOW_EXPIRY (R173): FALLBACK, with the mute order (R37). -/
def execClockStartWindowExpiry (straps : Straps) (s : State) : Host.Outcome State Fault Refusal :=
  .next (if !s.ctl.resetHeld && s.ctl.step == .clockstart then
      endClockstart (muteOrder (s.setCtl { s.ctl with clock := some .fallback, crystalOn := false })) straps
    else s)

/-- CLOCK_MONITOR_FALLBACK (R174). -/
def execClockMonitorFallback (s : State) : Host.Outcome State Fault Refusal :=
  .next (if s.ctl.clock = some .crystal then
      muteOrder (s.setCtl { s.ctl with clock := some .fallback, crystalOn := false, monitor := false })
    else s)

/-- SERIAL_MEMORY_READ_END: the bits of data in fill the buffer, and it is judged; a failed image leads to HALTED or
CONFIG_WAIT by source (R176 to R178). -/
def execSerialMemoryReadEnd (dataIn : List Bool) (s : State) : Host.Outcome State Fault Refusal :=
  .next (if s.ctl.step = .configLoad then
      let img := clockedIn dataIn
      let s := judgeImage (s.setCtl { s.ctl with image := some img }) img
      if s.ctl.step = .configLoad then
        s.setCtl { s.ctl with step := if sourceWaits (s.ctl.source.getD 3) then .configWait else .halted }
      else s
    else s)

/-- The hand-over at the end of the self-test: the port's new state, then JOINING (R35, R48, R182). -/
def handOver (s : State) (x : PortState) (record : Option SelfTestRecord) : State :=
  let s := s.setPort { s.port with state := x, selfTest := record, sync := x != .dead }
  enterJoining (s.setCtl { s.ctl with step := .handedOver })

/-- SELFTEST_END (R35, R38, R182): DEAD on a mismatch; otherwise MUTE when a mute order is held, LISTEN when not. -/
def execSelftestEnd (bytes : List RxByte) (s : State) : Host.Outcome State Fault Refusal :=
  .next (if s.port.state = .selftest then
      match compareSelfTest selfTestSent bytes with
      | .running => s
      | .passed => handOver s (if s.port.muteHeld then .mute else .listen) none
      | .failed r => handOver s .dead (some r)
    else s)

end Sys2Proof.Machine
end

