-- ==== Sys2Proof/Machine/Dispatch.lean ====
section
/-! DEFINITION. The dispatch: one arm per command of the opcode table, each one direct call of the command's meaning. -/

namespace Sys2Proof.Machine

def exec (i : Instr) (s : State) : Host.Outcome State Fault Refusal :=
  match i with
  | .powerOn => Sys2Proof.Machine.execPowerOn s
  | .brownOut => Sys2Proof.Machine.execBrownOut s
  | .externalReset => Sys2Proof.Machine.execExternalReset s
  | .resetRelease => Sys2Proof.Machine.execResetRelease s
  | .powerUpDelayExpiry => Sys2Proof.Machine.execPowerUpDelayExpiry s
  | .crystalStart straps => Sys2Proof.Machine.execCrystalStart straps s
  | .clockStartWindowExpiry straps => Sys2Proof.Machine.execClockStartWindowExpiry straps s
  | .clockMonitorFallback => Sys2Proof.Machine.execClockMonitorFallback s
  | .serialMemoryReadEnd dataIn => Sys2Proof.Machine.execSerialMemoryReadEnd dataIn s
  | .selftestEnd received => Sys2Proof.Machine.execSelftestEnd received s
  | .receiverSync => Sys2Proof.Machine.execReceiverSync s
  | .scanTimerExpiry contacts => Sys2Proof.Machine.execScanTimerExpiry contacts s
  | .conversionEnd input current => Sys2Proof.Machine.execConversionEnd input current s
  | .scanCompletion => Sys2Proof.Machine.execScanCompletion s
  | .faultResetSample active => Sys2Proof.Machine.execFaultResetSample active s
  | .slotStart idle dominant => Sys2Proof.Machine.execSlotStart idle dominant s
  | .contentionLoss => Sys2Proof.Machine.execContentionLoss s
  | .driveFailure partialFrame => Sys2Proof.Machine.execDriveFailure partialFrame s
  | .stuckLine partialFrame => Sys2Proof.Machine.execStuckLine partialFrame s
  | .lineFaultTimerExpiry stuck => Sys2Proof.Machine.execLineFaultTimerExpiry stuck s
  | .transmissionComplete => Sys2Proof.Machine.execTransmissionComplete s
  | .stageReportReceived frame => Sys2Proof.Machine.execStageReportReceived frame s
  | .startNoticeReceived frame => Sys2Proof.Machine.execStartNoticeReceived frame s
  | .quitNoticeReceived frame => Sys2Proof.Machine.execQuitNoticeReceived frame s
  | .badFrame frame => Sys2Proof.Machine.execBadFrame frame s
  | .secondsTick => Sys2Proof.Machine.execSecondsTick s
  | .listenTimerExpiry => Sys2Proof.Machine.execListenTimerExpiry s
  | .reportTimerExpiry => Sys2Proof.Machine.execReportTimerExpiry s
  | .spacingTimerExpiry => Sys2Proof.Machine.execSpacingTimerExpiry s
  | .ageingTimerExpiry => Sys2Proof.Machine.execAgeingTimerExpiry s
  | .allocationTimerExpiry => Sys2Proof.Machine.execAllocationTimerExpiry s
  | .allocationCompletion => Sys2Proof.Machine.execAllocationCompletion s
  | .holdOffExpiry => Sys2Proof.Machine.execHoldOffExpiry s
  | .slewTimerExpiry => Sys2Proof.Machine.execSlewTimerExpiry s
  | .startWindowExpiry k => Sys2Proof.Machine.execStartWindowExpiry k s
  | .restTimerExpiry k => Sys2Proof.Machine.execRestTimerExpiry k s
  | .characterReceived c stopLow => Sys2Proof.Machine.execCharacterReceived c stopLow s
  | .responseEnd => Sys2Proof.Machine.execResponseEnd s
  | .status => Sys2Proof.Machine.execStatus s
  | .view n => Sys2Proof.Machine.execView n s
  | .pump k => Sys2Proof.Machine.execPump k s
  | .line => Sys2Proof.Machine.execLine s
  | .cause => Sys2Proof.Machine.execCause s
  | .clearFaults => Sys2Proof.Machine.execClearFaults s
  | .clearLine => Sys2Proof.Machine.execClearLine s
  | .leave => Sys2Proof.Machine.execLeave s
  | .rejoin => Sys2Proof.Machine.execRejoin s
  | .load offset bytes => Sys2Proof.Machine.execLoad offset bytes s
  | .loadEnd => Sys2Proof.Machine.execLoadEnd s
  | .brownOutEnd => Sys2Proof.Machine.execBrownOutEnd s

end Sys2Proof.Machine
end

