-- ==== Sys2Proof/Safety.lean ====
section
/-! DEFINITION. What holds of the part in service: the invariants that every step keeps, each with the rules it comes
from, and the words in which the statements speak of an acceptance and of a channel that has been moved. -/

namespace Sys2Proof.Machine

/-! ## Channels (R139, R140, R144, R147) -/

/-- The three states in which the run output is active (R140). -/
def ChanState.turns : ChanState → Bool
  | .starting | .running | .stopping => true
  | .disabled | .idle | .notice | .resting | .inLocal | .fault => false

/-- A channel whose outputs, timers, mode and flag agree with its state and its debounced combination; `leftOut` tells that the
accepted configuration does not fit it. -/
structure Channel.Consistent (leftOut : Bool) (c : Channel) : Prop where
  /-- The run output is active in STARTING, RUNNING and STOPPING alone (R140). -/
  run       : c.run = (c.state.map ChanState.turns).getD false
  /-- The reference is 0 while the run output is inactive (R140). -/
  reference : c.run = false → c.reference = 0
  /-- The start window runs in STARTING alone (R147, R148). -/
  window    : c.window.isSome = true ↔ c.state = some .starting
  /-- The rest timer runs in RESTING alone (R144). -/
  rest      : c.rest.isSome = true ↔ c.state = some .resting
  /-- Mode and SELECTOR flag follow from the debounced combination (R139); a channel left out has neither (R137). -/
  mode      : c.mode = if leftOut then none else some (modeOf c.combination)
  selector  : c.selector = (!leftOut && selectorOf c.combination)

/-- Every channel is consistent. -/
def ChannelsConsistent (s : State) : Prop := ∀ k, (s.chan k).Consistent (s.leftOut k)

/-! ## The start sequence, the port and the coordination state (chapters 2, 3, 5 and 10) -/

/-- What the start step, the port state, the coordination state and the timers say of one another. -/
structure StartSequence (s : State) : Prop where
  /-- A held reset holds the part in POWERUP (R170). -/
  held        : s.ctl.resetHeld = true → s.ctl.step = .powerup
  /-- Before the acceptance the port is OFF and there is no configuration (R36, R178). -/
  before      : s.ctl.step ≠ .selftest → s.ctl.step ≠ .handedOver → s.port.state = .off ∧ s.ctl.config = none
  /-- During the self-test the port is in SELFTEST (R34, R182). -/
  testing     : s.ctl.step = .selftest → s.port.state = .selftest ∧ s.ctl.config.isSome = true
  /-- After the hand-over the port has left OFF and SELFTEST (R35, R182). -/
  after       : s.ctl.step = .handedOver →
    s.port.state ≠ .off ∧ s.port.state ≠ .selftest ∧ s.ctl.config.isSome = true
  /-- A coordination state stands from the hand-over on (R47). -/
  coord       : s.sched.coord.isSome = true ↔ s.ctl.step = .handedOver
  /-- Until the hand-over the scheduler holds its reset values, with no river side (R47). -/
  quiet       : s.sched.coord = none → s.sched = .reset
  /-- No channel has a state before the first placement (R137, R156). -/
  unplaced    : s.ctl.step ≠ .handedOver → ∀ k, s.chanState k = none
  /-- A channel that is not fitted has no state (R137). -/
  fitted      : ∀ k, s.chanState k ≠ none → s.fitted k = true
  /-- The transmit queue is empty and nothing is in transmission while the port is not ACTIVE (R27, R28). -/
  queue       : s.port.state ≠ .active → s.port.queue = .empty ∧ s.port.tx = none
  /-- The LINE_FAULT timer runs in LINE_FAULT alone (R25, R26, R37). -/
  lineFault   : s.port.lineFaultTimer.isSome = true ↔ s.port.state = .lineFault
  /-- The listen timer runs in JOINING, the report timer and the allocation timer in COORDINATING and LEAVING (R48, R50,
  R56, R80). -/
  listenTimer : s.sched.listenTimer.isSome = true ↔ s.sched.coord = some .joining
  reportTimer : s.sched.reportTimer.isSome = s.reporting
  allocTimer  : s.alloc.timer.isSome = s.reporting
  /-- Q_tgt is 0 outside COORDINATING (R95). -/
  target      : s.sched.coord ≠ some .coordinating → s.alloc.qTgt = 0

/-! ## The own notice (R119, R120) -/

/-- A channel that is in NOTICE or STARTING. -/
def State.starts (s : State) (k : Chan) : Bool := s.isIn k .notice || s.isIn k .starting

/-- The own notice stands for the one channel in NOTICE, and at most one channel is in NOTICE or STARTING (R119, R120). -/
structure OneStartAtATime (s : State) : Prop where
  notice : ∀ k, s.isIn k .notice = true ↔ ∃ n, s.arb.notice = some n ∧ n.channel = k
  atMost : ∀ j k, s.starts j = true → s.starts k = true → j = k

/-! ## The peer view (R58 to R63) -/

/-- A level or stage that the view may store (R59). -/
def storedLevel (z : Int) : Prop := z = Config.invalidLevel ∨ (-9999 ≤ z ∧ z ≤ 9999)

/-- A stored report, as normalised at acceptance (R59). -/
structure StagePayload.Stored (p : StagePayload) : Prop where
  polder  : storedLevel p.polder
  river   : storedLevel p.river
  urgency : p.urgency ≤ 1000
  cav     : p.cav ≤ 16000
  demand  : p.demand ≤ p.cav
  eAuto   : p.eAuto ≤ 16000
  eHand   : p.eHand ≤ 16000

/-- A record of a peer: its counts are in range, its report is a stored one, and its status follows from its age (R58,
R59, R63). -/
structure PeerRecord.Sound (period : Nat) (r : PeerRecord) : Prop where
  missed  : r.missed ≤ 255
  last    : r.lastNumber ≤ 255
  age     : r.age ≤ 65535
  report  : ∀ p, r.report = some p → p.Stored
  status  : r.status = .fresh ∨ r.status = .aged ∨ r.status = .lost →
    r.report.isSome = true ∧ r.status = statusByAge period r.age
  pending : ∀ p, r.pending = some p → p.urgency ≤ 1000

/-- The peer view as a whole: 24 records; exactly one SELF entry, at the own number, once a configuration is accepted, and
every entry ABSENT before (R58). -/
structure ViewSound (s : State) : Prop where
  length  : s.view.records.length = 24
  station : ∀ c, s.ctl.config = some c → 1 ≤ c.station ∧ c.station ≤ 24
  blank   : s.ctl.config = none → s.view.records = List.replicate 24 .absent
  self    : ∀ c n, s.ctl.config = some c → 1 ≤ n → n ≤ 24 →
    ((s.record n).status = .self ↔ n = c.station)
  peers   : ∀ n, 1 ≤ n → n ≤ 24 → (s.record n).status ≠ .self → (s.record n).Sound (reportPeriod s.cfg)

/-! ## The rotation list (R105) -/

/-- Once a configuration is accepted, the rotation list holds every fitted channel exactly once and nothing else. -/
def RotationSound (s : State) : Prop :=
  s.ctl.config.isSome = true →
    ∃ l, s.disp.rotation = some l ∧ l.Nodup ∧ ∀ n, n ∈ l ↔ ∃ k, s.fitted k = true ∧ chanNum k = n

/-! ## Speed references (R111, R112, R140) -/

/-- The references of turning channels lie from nmin to 1022, and n_t bounds every RUNNING channel's nmin. -/
structure SpeedsSound (s : State) : Prop where
  pumps     : ∀ k, s.fitted k = true → 100 ≤ (s.pump k).nmin ∧ (s.pump k).nmin ≤ 1022
  reference : ∀ k, (s.chan k).run = true →
    (s.pump k).nmin ≤ (s.chan k).reference ∧ (s.chan k).reference ≤ 1022
  target    : ∀ k, s.isIn k .running = true →
    ∃ n, s.disp.nt = some n ∧ (s.pump k).nmin ≤ n ∧ n ≤ 1022

/-! ## What an acceptance does (R181) -/

/-- `t` is `s` after the acceptance of the configuration `c`: each block acts by its own rule, and the others stand (R18,
R58, R66, R79, R99, R105, R137, R181). -/
structure Accepted (s t : State) (c : StationConfig) : Prop where
  ctl   : t.ctl = { s.ctl with config := some c, step := .selftest }
  port  : t.port = { s.port with state := .selftest, bitRate := some (bitRateOf c.bitRate), seconds := 0 }
  ageing : t.view.ageingTimer = some 100
  own   : t.record c.station = { s.record c.station with status := .self }
  peers : ∀ n, 1 ≤ n → n ≤ 24 → n ≠ c.station → t.record n = s.record n
  allow : t.allow = ⟨some c.sClose, false, false, some 0, some 0, some 0, 0⟩
  alloc : t.alloc = .reset
  disp  : t.disp = { s.disp with
    rotation := some (settleRotation c s.disp.rotation)
    instPower := some (sumChans fun k => if (quadGet c.pumps k).fitted then (quadGet c.pumps k).power else 0)
    slewTimer := some 100 }
  chans : ∀ k, t.chan k =
    if (quadGet c.pumps k).fitted then s.chan k else { s.chan k with mode := none, selector := false }
  rest  : t.acq = s.acq ∧ t.sched = s.sched ∧ t.arb = s.arb ∧ t.sup = s.sup ∧ t.pending = s.pending

/-! ## Channels that have been moved -/

/-- Run output off, reference 0, window stopped: the channel has been put in a state without outputs (R140). -/
structure Channel.Off (c : Channel) (x : ChanState) : Prop where
  state     : c.state = some x
  run       : c.run = false
  reference : c.reference = 0
  window    : c.window = none

/-- The state that an entry to RESTING leaves: RESTING with a full rest, or IDLE at once when T_rest is 0, and the channel out of
the hand-running set (R102, R144). -/
def Rested (s t : State) (k : Chan) : Prop :=
  (if s.cfg.tRest = 0 then (t.chan k).Off .idle ∧ (t.chan k).rest = none
  else (t.chan k).Off .resting ∧ (t.chan k).rest = some (s.cfg.tRest * 1000)) ∧ quadGet t.disp.hand k = false

/-- A channel judged for the hand-running set at its entry to LOCAL: a working current counts from I_ul on, and a channel
without a working current counts too (R102; log entry 8). -/
def HandJudged (s t : State) (k : Chan) : Prop :=
  quadGet t.disp.hand k = true ↔ ∀ w, s.current k = some w → (s.pump k).iul ≤ w

/-- The state that a placement by a mode leaves (R152, R153), in the hand-running set too (R102). A channel without a mode is
not placed. -/
def Placed (s t : State) (k : Chan) (m : Option Mode) : Prop :=
  match m with
  | some .auto => Rested s t k
  | some .hand => (t.chan k).Off .inLocal ∧ (t.chan k).rest = none ∧ HandJudged s t k
  | some .off => (t.chan k).Off .disabled ∧ (t.chan k).rest = none ∧ quadGet t.disp.hand k = false
  | none => t.chan k = s.chan k ∧ quadGet t.disp.hand k = quadGet s.disp.hand k

/-- The station figures E_auto, E_hand, running power and Crun of a state are those of R103 and R106. -/
structure FiguresFormed (t : State) : Prop where
  crun  : t.disp.crun = sumChans fun k => if t.inR k then t.qmax k else 0
  auto  : t.disp.eAuto = sumChans fun k =>
    if t.turning k then t.qmax k * (t.chan k).reference / 1022 else 0
  hand  : t.disp.eHand = sumChans fun k => if quadGet t.disp.hand k then t.qmax k else 0
  power : t.disp.runPower = sumChans fun k =>
    if t.turning k || quadGet t.disp.hand k then (t.pump k).power else 0

/-- `t` is `s` after an event that forms n_t: from Q_tgt and Crun, within n_lo, the largest nmin among the RUNNING channels, and
1022; while no channel is RUNNING it keeps its value (R111). -/
structure SpeedTargetFormed (s t : State) : Prop where
  formed : (∃ j, t.isIn j .running = true) → ∃ lo : Nat,
    (∀ j, t.isIn j .running = true → (t.pump j).nmin ≤ lo) ∧
    (∃ j, t.isIn j .running = true ∧ (t.pump j).nmin = lo) ∧
    t.disp.nt = some (if 0 < t.disp.crun then max lo (min (t.alloc.qTgt * 1022 / t.disp.crun) 1022) else lo)
  kept   : (∀ j, t.isIn j .running = false) → t.disp.nt = s.disp.nt

/-! ## Conversions (R2, R5 to R9, R13) -/

/-- What the manual lays down for one conversion of a level input, row by row: `x` before, `y` after, `i` the loop current
(R2, R6 to R9). -/
structure LevelTransition (scale : Option LevelScale) (i : Nat) (x y : LevelInput) : Prop where
  lastLoop : y.lastLoop = some (min i 25000)
  initGood : goodConversion i = true → x.state = .init →
    y.window = pushWindow x.window (clampLoop i) ∧ y.bad = 0
      ∧ y.state = if 8 ≤ y.window.length then .good else .init
  initBad : goodConversion i = false → x.state = .init → x.bad + 1 < 3 →
    y = { x with bad := x.bad + 1, lastLoop := y.lastLoop }
  initThird : goodConversion i = false → x.state = .init → 3 ≤ x.bad + 1 →
    y.state = .substituted ∧ y.window = [] ∧ y.run = [] ∧ y.held = none
  goodGood : goodConversion i = true → x.state = .good ∨ x.state = .suspect →
    y = { x with state := .good, window := pushWindow x.window (clampLoop i), bad := 0, lastLoop := y.lastLoop }
  goodBad : goodConversion i = false → x.state = .good →
    y = { x with state := .suspect, bad := 1, lastLoop := y.lastLoop }
  suspectBad : goodConversion i = false → x.state = .suspect → x.bad + 1 < 3 →
    y = { x with bad := x.bad + 1, lastLoop := y.lastLoop }
  suspectThird : goodConversion i = false → x.state = .suspect → 3 ≤ x.bad + 1 →
    y.state = .held ∧ y.held = scale.bind (filteredLevel · x.window) ∧ y.window = x.window ∧ y.holdCount = 0
      ∧ y.run = []
  recovered : goodConversion i = true → x.state = .held ∨ x.state = .substituted → 8 ≤ x.run.length + 1 →
    y.state = .good ∧ y.window = x.run ++ [clampLoop i] ∧ y.run = [] ∧ y.bad = 0 ∧ y.held = none
  heldOn : x.state = .held → (goodConversion i = true → x.run.length + 1 < 8) →
    y.holdCount = x.holdCount + 1 ∧ y.held = x.held ∧ y.window = x.window
      ∧ y.run = (if goodConversion i then x.run ++ [clampLoop i] else [])
      ∧ y.state = if 300 ≤ x.holdCount + 1 then .substituted else .held
  substitutedOn : x.state = .substituted → (goodConversion i = true → x.run.length + 1 < 8) →
    y = { x with run := if goodConversion i then x.run ++ [clampLoop i] else [], lastLoop := y.lastLoop }

/-- The same for a current input (R2, R13). -/
structure CurrentTransition (i : Nat) (x y : CurrentInput) : Prop where
  lastLoop : y.lastLoop = some (min i 25000)
  initGood : goodConversion i = true → x.state = .init →
    y.window = pushWindow x.window (clampLoop i) ∧ y.bad = 0
      ∧ y.state = if 8 ≤ y.window.length then .good else .init
  initBad : goodConversion i = false → x.state = .init → x.bad + 1 < 3 →
    y = { x with bad := x.bad + 1, lastLoop := y.lastLoop }
  initThird : goodConversion i = false → x.state = .init → 3 ≤ x.bad + 1 →
    y.state = .lost ∧ y.window = []
  goodGood : goodConversion i = true → x.state = .good ∨ x.state = .suspect →
    y = { x with state := .good, window := pushWindow x.window (clampLoop i), bad := 0, lastLoop := y.lastLoop }
  goodBad : goodConversion i = false → x.state = .good →
    y = { x with state := .suspect, bad := 1, lastLoop := y.lastLoop }
  suspectBad : goodConversion i = false → x.state = .suspect → x.bad + 1 < 3 →
    y = { x with bad := x.bad + 1, lastLoop := y.lastLoop }
  suspectThird : goodConversion i = false → x.state = .suspect → 3 ≤ x.bad + 1 →
    y.state = .lost ∧ y.window = x.window ∧ y.run = []
  recovered : goodConversion i = true → x.state = .lost → 8 ≤ x.run.length + 1 →
    y.state = .good ∧ y.window = x.run ++ [clampLoop i] ∧ y.run = []
  lostOn : x.state = .lost → (goodConversion i = true → x.run.length + 1 < 8) →
    y = { x with run := if goodConversion i then x.run ++ [clampLoop i] else [], lastLoop := y.lastLoop }

/-! ## Joining, clearing, composing -/

/-- `t` is `s` after an entry to JOINING (R48, R79, R119, R153). -/
structure Joined (s t : State) : Prop where
  coord    : t.sched.coord = some .joining
  timers   : t.sched.listenTimer = some (3 * 2 ^ s.cfg.period * 1000) ∧ t.sched.reportTimer = none
  prompt   : t.sched.prompt = false
  alloc    : t.alloc = .reset
  notice   : t.arb.notice = none ∧ t.arb.counter = s.arb.counter
  holdOff  : s.arb.notice.isSome = true ∨ s.arb.holdOff = none → t.arb.holdOff = none
  placed   : ∀ k, s.fitted k = true → s.chanState k ≠ some .fault → Placed s t k (s.chan k).mode
  kept     : ∀ k, s.fitted k = false ∨ s.chanState k = some .fault →
    t.chan k = s.chan k ∧ quadGet t.disp.hand k = quadGet s.disp.hand k
  figures  : FiguresFormed t
  rotation : t.disp.rotation = s.disp.rotation
  frame    : t.acq = s.acq ∧ t.sup = s.sup ∧ t.allow = s.allow

/-- A STAGE of the station is in transmission. -/
def StageOnLine (s : State) : Prop := ∃ p w, s.port.tx = some ⟨.stage p, w⟩

/-- `t` is `s` after an event with a prompt cause, in a station that goes on reporting (R51, R52): the prompt pending mark while
the spacing timer runs or a STAGE is in transmission, and otherwise a STAGE composed from the figures of `t`. -/
structure Prompted (s t : State) : Prop where
  pending : s.sched.spacingTimer.isSome = true ∨ StageOnLine s →
    t.sched.prompt = true ∧ t.sched.counter = s.sched.counter
  atOnce  : s.sched.spacingTimer = none → ¬ StageOnLine s → 1 ≤ s.own → s.own ≤ s.view.records.length →
    ∃ p, (t.record s.own).report = some p ∧ t.sched.counter = (p.number + 1) % 256
      ∧ p.river = t.acq.pub.river.working.getD (-32768) ∧ p.eHand = t.disp.eHand ∧ p.eAuto = t.disp.eAuto
      ∧ t.sched.prompt = false ∧ t.sched.reportTimer = some (2 ^ s.cfg.period * 1000)
      ∧ (s.port.state = .active → t.port.queue.stage = some p)

/-- What the QUIT test of an event leaves (R55, R46, R53, R56). It is made in LEAVING when a channel has changed its state or
E_hand has changed, and it holds when no channel turns and E_hand is 0: the QUIT is offered, queued in an ACTIVE port and refused
elsewhere, which ends in LEFT. Without such an occasion, or while the condition fails, or once a QUIT was offered, nothing of it
changes. -/
structure QuitTested (s t : State) : Prop where
  offered  : s.sched.coord = some .leaving → s.sched.quitOffered = false →
    (∃ k, t.chanState k ≠ s.chanState k) ∨ t.disp.eHand ≠ s.disp.eHand →
    (∀ k, t.turning k = false) → t.disp.eHand = 0 →
    (s.port.state = .active → t.sched.coord = some .leaving ∧ t.sched.quitOffered = true ∧
      t.port.queue.quit = some ⟨1, (t.sched.counter + 255) % 256⟩ ∧ t.port.queue.start = none) ∧
    (s.port.state ≠ .active → t.sched.coord = some .left ∧ t.sched.quitOffered = false ∧ t.sched.reportTimer = none ∧
      t.sched.spacingTimer = none ∧ t.sched.prompt = false ∧ t.alloc.timer = none)
  heldBack : s.sched.coord = some .leaving →
    ((∀ k, t.chanState k = s.chanState k) ∧ t.disp.eHand = s.disp.eHand) ∨ (∃ k, t.turning k = true) ∨
      t.disp.eHand ≠ 0 ∨ s.sched.quitOffered = true →
    t.sched.coord = some .leaving ∧ t.sched.quitOffered = s.sched.quitOffered ∧ t.port.queue.quit = s.port.queue.quit

/-- `t` is `s` after the port has discarded all its frames: what R28 has it report, and what the owners do with the report (R52,
R53, R56, R123). -/
structure FramesDiscarded (s t : State) : Prop where
  start   : ∀ n, s.arb.notice = some n →
    (∃ p, s.port.queue.start = some p ∧ p.number = n.number)
      ∨ (∃ p w, s.port.tx = some ⟨.start p, w⟩ ∧ p.number = n.number) →
    t.arb = { s.arb with notice := some { n with phase := .holding }, holdOff := some (s.cfg.tHold * 1000) }
  noStart : (∀ n, s.arb.notice = some n →
    (∀ p, s.port.queue.start = some p → p.number ≠ n.number)
      ∧ ∀ p w, s.port.tx = some ⟨.start p, w⟩ → p.number ≠ n.number) → t.arb = s.arb
  quit    : s.port.queue.quit.isSome = true ∨ (∃ p w, s.port.tx = some ⟨.quit p, w⟩) →
    s.sched.coord = some .leaving → t.sched.coord = some .left ∧ t.alloc.timer = none
  noQuit  : s.port.queue.quit = none → (∀ p w, s.port.tx ≠ some ⟨.quit p, w⟩) →
    t.sched.coord = s.sched.coord ∧ t.alloc = s.alloc
  stage   : StageOnLine s → s.reporting = true → s.sched.prompt = true → s.sched.spacingTimer = none →
    t.sched.counter = (s.sched.counter + 1) % 256 ∧ t.sched.prompt = false

/-- No fault latch is on its way to a channel. -/
abbrev NoneOffered (s : State) : Prop := s.sup.offered = ⟨none, none, none, none⟩

/-- `u` is `t` after the latches `o` that were on their way have reached their channels (R148, R150, R151, R162, R163, R165): a
channel in STARTING, RUNNING or STOPPING takes its latch, any other discards it and has its counts at 0. -/
structure LatchesArrived (o : Quad (Option FaultKind)) (t u : State) : Prop where
  taken     : ∀ k kind, quadGet o k = some kind → t.turning k = true →
    (u.chan k).Off .fault ∧ (u.chan k).rest = none ∧ quadGet u.sup.watch k = ⟨0, 0, 0, some kind⟩
  discarded : ∀ k kind, quadGet o k = some kind → t.turning k = false →
    u.chan k = t.chan k ∧ quadGet u.sup.watch k = ⟨0, 0, 0, (quadGet t.sup.watch k).latch⟩
  others    : ∀ k, quadGet o k = none → u.chan k = t.chan k ∧ quadGet u.sup.watch k = quadGet t.sup.watch k
  none      : (∀ k, quadGet o k = .none) → u = t
  gone      : NoneOffered u
  figures   : (∃ k, quadGet o k ≠ .none) → FiguresFormed u
  target    : (∃ k, quadGet o k ≠ .none ∧ t.turning k = true) → SpeedTargetFormed t u
  prompt    : (∃ k, quadGet o k ≠ .none ∧ t.turning k = true) → t.reporting = true → u.sched.coord = t.sched.coord →
    Prompted t u
  quit      : QuitTested t u
  frame     : u.ctl = t.ctl ∧ u.acq = t.acq ∧ u.allow = t.allow ∧ u.maint = t.maint ∧ u.disp.rotation = t.disp.rotation
    ∧ u.disp.table = t.disp.table ∧ u.disp.lockout = t.disp.lockout ∧ u.sup.samples = t.sup.samples
    ∧ u.sup.level = t.sup.level

/-- `t` is `s` after all fault latches have been cleared (R51, R102, R152, R165). -/
structure Cleared (s t : State) : Prop where
  watch  : ∀ k, quadGet t.sup.watch k = ⟨0, 0, 0, none⟩
  left   : ∀ k, s.isIn k .fault = true → Placed s t k (s.chan k).mode
  others : ∀ k, s.isIn k .fault = false → t.chan k = s.chan k ∧ quadGet t.disp.hand k = quadGet s.disp.hand k
  prompt : s.reporting = true → t.disp.eHand ≠ s.disp.eHand → t.sched.coord = s.sched.coord → Prompted s t
  frame  : t.ctl = s.ctl ∧ t.acq = s.acq ∧ t.allow = s.allow ∧ t.disp.rotation = s.disp.rotation
    ∧ t.disp.lockout = s.disp.lockout

/-- `t` holds the STAGE report `p` composed from the figures of `s`: its fields, and the marks of the composition in a scheduler
and a view that are otherwise those of `s` (R42, R43, R44, R50, R52, R64, R27). -/
structure Composed (s t : State) (p : StagePayload) : Prop where
  number    : p.number = s.sched.counter
  flags     : p.flags = ⟨s.sched.restart, s.acq.pub.degraded, s.alloc.isolated, s.disp.lockout,
    s.sched.coord == some .leaving, s.allow.blind⟩
  levels    : p.polder = s.acq.pub.polder.working.getD (-32768) ∧ p.river = s.acq.pub.river.working.getD (-32768)
  allocated : p.urgency = s.alloc.urgency ∧ p.demand = s.alloc.demand ∧ p.cav = s.alloc.cav
    ∧ p.share = s.alloc.share
  station   : p.eAuto = s.disp.eAuto ∧ p.eHand = s.disp.eHand ∧ p.runPower = s.disp.runPower
    ∧ p.instPower = s.disp.instPower.getD 0 ∧ p.digest = s.cfg.digest
  sched     : t.sched = { s.sched with
    counter := (s.sched.counter + 1) % 256, reportTimer := some (2 ^ s.cfg.period * 1000), prompt := false }
  view      : t.view = { s.view with
    records := s.view.records.set (s.own - 1) { s.record s.own with report := some p } }
  own       : 1 ≤ s.own → s.own ≤ s.view.records.length → (t.record s.own).report = some p
  queued    : t.port.queue = if s.port.state = .active then { s.port.queue with stage := some p } else s.port.queue

/-! ## The text of a request (R184 to R188) -/

/-- A decimal number: one digit or more, and its value (R185). -/
def SpellsNumber (d : List Byte) (n : Nat) : Prop :=
  d ≠ [] ∧ (∀ x ∈ d, 0x30 ≤ x.toNat ∧ x.toNat ≤ 0x39) ∧ n = d.foldl (fun a x => 10 * a + (x.toNat - 0x30)) 0

/-- A hexadecimal digit, 0 to 9 or A to F, and its value (R185). -/
def SpellsHexDigit (x : Byte) (n : Nat) : Prop :=
  (n ≤ 9 ∧ x.toNat = 0x30 + n) ∨ (10 ≤ n ∧ n ≤ 15 ∧ x.toNat = 0x41 + (n - 10))

/-- A data byte of LOAD: two hexadecimal digits (R185). -/
def SpellsByte (w : List Byte) (b : Byte) : Prop :=
  ∃ x y i j, w = [x, y] ∧ SpellsHexDigit x i ∧ SpellsHexDigit y j ∧ b.toNat = 16 * i + j

/-- The words that spell a request (R185 to R188). -/
def Spells (ws : List (List Byte)) : Request → Prop
  | .status => ws = [chars "STATUS"]
  | .view n => ∃ d, ws = [chars "VIEW", d] ∧ SpellsNumber d n
  | .pump k => ∃ d, ws = [chars "PUMP", d] ∧ SpellsNumber d k
  | .line => ws = [chars "LINE"]
  | .cause => ws = [chars "CAUSE"]
  | .clearFaults => ws = [chars "CLEAR", chars "FAULTS"]
  | .clearLine => ws = [chars "CLEAR", chars "LINE"]
  | .leave => ws = [chars "LEAVE"]
  | .rejoin => ws = [chars "REJOIN"]
  | .load o l => ∃ d ds, ws = chars "LOAD" :: d :: ds ∧ SpellsNumber d o ∧ 1 ≤ l.length ∧ l.length ≤ 16
      ∧ List.Forall₂ SpellsByte ds l
  | .loadEnd => ws = [chars "LOAD", chars "END"]

end Sys2Proof.Machine
end

