-- ==== Sys2Proof/Certificates/Slice0/Obligations.lean ====
section
/-! DEFINITION. The statements for the provers, one `def Obligations.<Name> : Prop` each. Titles, cites and quotes stand in
OBLIGATIONS.json. A statement that names a log entry rests on a choice of the model there. -/

open Sys2Proof Sys2Proof.Machine

/-- A step runs the command at the front of the queue; an empty queue idles (R169). The queue is the model's; the
idle step is its choice (log entry 3). -/
def Obligations.StepRunsTheFrontCommand : Prop :=
  (∀ (c : Instr) (rest : List Instr) (s : State), s.pending = c :: rest →
    step s = exec c { s with pending := rest }) ∧
  ∀ s : State, s.pending = [] → step s = .next s

/-- Every command of the table completes in every state, and none touches the queue (R169, R184). An event that
cannot arise leaves the state as it is (log entry 4); that no command, a reset among them, touches the queue is the
model's choice (log entry 25). -/
def Obligations.EveryCommandCompletesAndKeepsTheQueue : Prop :=
  ∀ (c : Instr) (s : State), ∃ t, exec c s = .next t ∧ t.pending = s.pending

/-- At the release of a POWER_ON reset every block holds the values its chapter gives (R17, R41, R47, R58, R66, R79,
R99, R119, R137, R157, R169, R184). That State.reset is the release of a POWER_ON reset is the model's choice (log
entry 14). -/
def Obligations.ResetValuesAreThoseOfTheBlocks : Prop :=
  let s := State.reset
  s.ctl.step = .powerup ∧ s.ctl.cause = .powerOn ∧ s.ctl.warmCount = 0 ∧ s.ctl.delay = .running
    ∧ s.ctl.clock = none ∧ s.ctl.station = none ∧ s.ctl.source = none ∧ s.ctl.image = none
    ∧ s.ctl.reason = none ∧ s.ctl.config = none ∧
  s.acq.scanTimer = none ∧ s.acq.scan = none ∧ (∀ x ∈ [s.acq.polder, s.acq.sump, s.acq.river],
    x = ⟨.init, [], 0, [], none, 0, none⟩) ∧ (∀ k, quadGet s.acq.currents k = ⟨.init, [], 0, [], none⟩)
    ∧ s.acq.pub.polder.working = none ∧ s.acq.pub.sump.working = none ∧ s.acq.pub.river.working = none
    ∧ s.acq.pub.head = none ∧ (∀ k, s.current k = none) ∧
  s.port.state = .off ∧ s.port.bitRate = none ∧ s.port.lastSender = none ∧ s.port.idle = none ∧ s.port.queue = ⟨none, none, none⟩
    ∧ s.port.tx = none ∧ s.port.lossCount = 0 ∧ s.port.lineFaultTimer = none ∧ s.port.good = 0 ∧ s.port.bad = 0
    ∧ s.port.losses = 0 ∧ s.port.lineFaults = 0 ∧ s.port.firstError = none ∧ s.port.selfTest = none
    ∧ s.port.seconds = 0 ∧ s.port.muteHeld = false ∧
  s.sched = ⟨none, none, none, none, false, 0, true, none, false⟩ ∧
  s.view.records.length = 24 ∧ (∀ r ∈ s.view.records, r = ⟨.absent, false, none, 0, 0, 0, none⟩)
    ∧ s.view.ageingTimer = none ∧
  s.allow = ⟨none, false, false, none, none, none, 0⟩ ∧ s.alloc = ⟨none, none, 0, 0, 0, 0, 0, false⟩ ∧
  s.disp.rotation = none ∧ s.disp.table = none ∧ s.disp.crun = 0 ∧ s.disp.nt = none ∧ s.disp.lockout = false
    ∧ s.disp.slewTimer = none ∧ (∀ k, quadGet s.disp.hand k = false) ∧ s.disp.eAuto = 0 ∧ s.disp.eHand = 0
    ∧ s.disp.runPower = 0 ∧ s.disp.instPower = none ∧
  s.arb = ⟨none, none, 0⟩ ∧ (∀ k, s.chan k = ⟨none, none, .neither, some .off, false, none, false, 0, none, none⟩) ∧
  (∀ k, quadGet s.sup.watch k = ⟨0, 0, 0, none⟩) ∧ NoneOffered s ∧ s.sup.samples = [] ∧ s.sup.level = none ∧
  alarmCauses s = [.startup, .level] ∧ alarmOutput s = true ∧
  s.maint = ⟨[], false, none, none⟩

/-- POWER_ON, BROWN_OUT and EXTERNAL_RESET put every block at reset, record their cause and drive the outputs
inactive (R170, R171, R172, R183). The kept queue and the overlap of assertions are the model's reading (log entries
23 and 25). -/
def Obligations.ResetsRecordTheirCauseAndDriveTheOutputsInactive : Prop :=
  ∀ s : State,
    let inactive : Outputs := ⟨⟨false, false, false, false⟩, ⟨0, 0, 0, 0⟩, false, .disabled, false, [], none⟩
    let warm := min (s.ctl.warmCount + 1) 255
    (∃ t, exec .powerOn s = .next t ∧ outputs t = inactive ∧
      t = { State.reset with
        ctl := { State.reset.ctl with resetHeld := true, external := s.ctl.external }
        pending := s.pending }) ∧
    (s.ctl.brownOut = false → ∃ t, exec .brownOut s = .next t ∧ outputs t = inactive ∧
      t = { State.reset with
        ctl := { State.reset.ctl with
          resetHeld := true, brownOut := true, external := s.ctl.external, cause := .brownOut, warmCount := warm
          delay := .stopped }
        disp := { State.reset.disp with rotation := s.disp.rotation }
        pending := s.pending }) ∧
    ∃ t, exec .externalReset s = .next t ∧ outputs t = inactive ∧
      t = { State.reset with
        ctl := { State.reset.ctl with
          resetHeld := true, brownOut := s.ctl.brownOut, external := true, cause := .external, warmCount := warm
          delay := s.ctl.delay }
        disp := { State.reset.disp with rotation := s.disp.rotation }
        pending := s.pending }

/-- POWERUP ends when the reset has been released and the power-up delay has ended (R170, R172, R173). A release while a
brown-out is asserted, and the external mark that a release clears: log entry 23. -/
def Obligations.PowerUpWaitsForTheDelayAndTheRelease : Prop :=
  ∀ s : State,
    (s.ctl.resetHeld = true → s.ctl.brownOut = false → s.ctl.delay ≠ .ended →
      exec .resetRelease s = .next { s with ctl := { s.ctl with resetHeld := false, external := false } }) ∧
    (s.ctl.resetHeld = true → s.ctl.brownOut = false → s.ctl.delay = .ended →
      exec .resetRelease s = .next { s with ctl := { s.ctl with
        resetHeld := false, external := false, step := .clockstart, crystalOn := true } }) ∧
    (s.ctl.resetHeld = true → s.ctl.brownOut = true → exec .resetRelease s = .next s) ∧
    (s.ctl.delay = .running → s.ctl.resetHeld = false → s.ctl.step = .powerup →
      exec .powerUpDelayExpiry s = .next { s with ctl := { s.ctl with
        delay := .ended, step := .clockstart, crystalOn := true } }) ∧
    (s.ctl.delay = .running → s.ctl.resetHeld = true →
      exec .powerUpDelayExpiry s = .next { s with ctl := { s.ctl with delay := .ended } }) ∧
    (s.ctl.brownOut = true →
      exec .brownOutEnd s = .next { s with ctl := { s.ctl with brownOut := false, delay := .running } })

/-- Crystal start and window expiry decide the clock, start the scan timer, sample the straps and pass on (R1, R37,
R173, R175). -/
def Obligations.ClockStartPassesToTheConfigurationLoad : Prop :=
  ∀ (st : Straps) (s : State), s.ctl.resetHeld = false → s.ctl.step = .clockstart → s.port.state = .off →
    let crystal : Controller := { s.ctl with
      clock := some .crystal, monitor := true, station := some st.stn.toNat, source := some st.csrc.toNat }
    let fallback : Controller := { s.ctl with
      clock := some .fallback, crystalOn := false, station := some st.stn.toNat, source := some st.csrc.toNat }
    let load (c : Controller) : Controller :=
      if st.csrc = 1#2 then
        { c with image := some (List.replicate 128 0#8), reason := some .noImage, step := .configWait }
      else { c with step := .configLoad }
    exec (.crystalStart st) s =
      .next { s with ctl := load crystal, acq := { s.acq with scanTimer := some 100 } } ∧
    exec (.clockStartWindowExpiry st) s =
      .next { s with
        ctl := load fallback
        acq := { s.acq with scanTimer := some 100 }
        port := { s.port with muteHeld := true } }

/-- A clock monitor fallback mutes the line port according to its state, and the frames it discards are reported (R28, R37,
R52, R53, R56, R123, R174). A QUIT that is discarded behind a lost STAGE: order of the discard reports, log entry 6; the
idle time stands: log entry 11. -/
def Obligations.ClockFallbackMutesThePortByItsState : Prop :=
  ∀ s : State, s.ctl.clock = some .crystal →
    ∃ t, exec .clockMonitorFallback s = .next t ∧
      t.ctl = { s.ctl with clock := some .fallback, crystalOn := false, monitor := false } ∧
      (s.port.state = .off ∨ s.port.state = .selftest → t = { s with
        ctl := t.ctl, port := { s.port with muteHeld := true } }) ∧
      (s.port.state = .mute ∨ s.port.state = .dead → t = { s with ctl := t.ctl }) ∧
      (s.port.state = .listen ∨ s.port.state = .active ∨ s.port.state = .lineFault →
        t.port = { s.port with
          state := .mute, lineFaultTimer := none, queue := ⟨none, none, none⟩, tx := none } ∧ FramesDiscarded s t) ∧
      t.acq = s.acq ∧ t.allow = s.allow ∧ t.disp = s.disp ∧ t.chans = s.chans ∧ t.sup = s.sup ∧ t.maint = s.maint

/-- During CONFIG_LOAD the part selects the serial memory and sends 0x03 and 0x00; the end of the read judges the bytes that came
in, each most significant bit first, and either accepts them or stops by source (R58, R66, R79, R99, R105, R137, R176, R178,
R181). -/
def Obligations.TheReadImageIsJudgedAtTheEndOfTheRead : Prop :=
  ∀ (bytes : List Byte) (s : State), s.ctl.step = .configLoad → bytes.length = 128 →
    s.view.records.length = 24 →
    let dataIn : List Bool := bytes.flatMap fun b => [b.getLsbD 7, b.getLsbD 6, b.getLsbD 5, b.getLsbD 4,
      b.getLsbD 3, b.getLsbD 2, b.getLsbD 1, b.getLsbD 0]
    (outputs s).memorySelect = true ∧ (outputs s).memoryOut = [0x03#8, 0x00#8] ∧
    (∀ r, validate (s.ctl.station.getD 0) bytes = some r →
      exec (.serialMemoryReadEnd dataIn) s = .next { s with ctl := { s.ctl with
        image := some bytes, reason := some r
        step := if s.ctl.source = some 2 then .configWait else .halted } }) ∧
    (validate (s.ctl.station.getD 0) bytes = none →
      ∃ t, exec (.serialMemoryReadEnd dataIn) s = .next t ∧ t.maint = s.maint ∧
        Accepted { s with ctl := { s.ctl with image := some bytes } } t (configOf bytes))

/-- Validation applies its seven checks in order and names the first that fails (R177, R190). -/
def Obligations.ValidationNamesTheFirstFailingCheck : Prop :=
  ∀ (strap : Nat) (img : List Byte),
    let v := validate strap img
    let crc := (crc16 (img.take 126)).toNat = u16At img 126
    let version := u8At img 0 = 1
    let station := 1 ≤ strap ∧ strap ≤ 24 ∧ strap = u8At img 1
    let stages := s16At img 6 < s16At img 8
    let levels := s16At img 14 < s16At img 16
    let scaling := s16At img 27 < s16At img 29 ∧ s16At img 31 < s16At img 33 ∧ s16At img 35 < s16At img 37
    let pump := ∃ o ∈ [40, 60, 80, 100], u8At img o ≠ 0 ∧ u16At img (o + 3) < u16At img (o + 5)
      ∧ u16At img (o + 1) ≠ 0 ∧ u16At img (o + 9) ≠ 0
    (v = some .imageCrc ↔ ¬ crc) ∧
    (v = some .version ↔ crc ∧ ¬ version) ∧
    (v = some .station ↔ crc ∧ version ∧ ¬ station) ∧
    (v = some .stages ↔ crc ∧ version ∧ station ∧ ¬ stages) ∧
    (v = some .levels ↔ crc ∧ version ∧ station ∧ stages ∧ ¬ levels) ∧
    (v = some .scaling ↔ crc ∧ version ∧ station ∧ stages ∧ levels ∧ ¬ scaling) ∧
    (v = some .noPump ↔ crc ∧ version ∧ station ∧ stages ∧ levels ∧ scaling ∧ ¬ pump) ∧
    (v = none ↔ crc ∧ version ∧ station ∧ stages ∧ levels ∧ scaling ∧ pump)

/-- The twelve clamps, the unclamped figures, the station, the fitted flags and the digest of an accepted configuration
(R177, R180, R181, R190). -/
def Obligations.ClampsBringTheFiguresIntoRange : Prop :=
  ∀ img : List Byte,
    let c := configOf img
    c.bitRate = (if 2 < u8At img 2 then 0 else u8At img 2) ∧
    c.period = (let p := if 3 < u8At img 3 then 3 else u8At img 3
      if c.bitRate = 0 ∧ p = 0 then 1 else p) ∧
    (c.bitRate = 0 → 2 ≤ reportPeriod c) ∧
    c.tHold = max 1 (min (u8At img 12) 10) ∧ c.tStart = max 2 (min (u8At img 13) 30) ∧
    c.sumpMargin = min (u16At img 20) 2000 ∧ c.slewStep = max 1 (min (u8At img 24) 100) ∧
    c.tRest = min (u16At img 25) 600 ∧
    c.station = u8At img 1 ∧
    (∀ k,
      let o := 20 + 20 * chanNum k
      ((quadGet c.pumps k).fitted = true ↔ u8At img o ≠ 0 ∧ u16At img (o + 3) < u16At img (o + 5) ∧
        u16At img (o + 1) ≠ 0 ∧ u16At img (o + 9) ≠ 0)) ∧
    (∀ k, (quadGet c.pumps k).fitted = true →
      let p := quadGet c.pumps k
      let o := 20 + 20 * chanNum k
      p.qr = min (u16At img (o + 1)) 4000 ∧ p.power = min (u16At img (o + 9)) 4000 ∧
      p.fs = min (u16At img (o + 11)) 4000 ∧ p.ioc = min (u16At img (o + 13)) 4000 ∧
      p.istart = max (min (u16At img (o + 15)) 4000) p.ioc ∧ p.iul = min (u16At img (o + 17)) 4000 ∧
      p.nmin = max 100 (min (u16At img (o + 7)) 1022) ∧
      p.deglitch = (if 3 < u8At img (o + 19) then 0 else u8At img (o + 19)) ∧
      p.hr = u16At img (o + 3) ∧ p.hsh = u16At img (o + 5)) ∧
    c.aFull = u16At img 4 ∧ c.pFeed = u16At img 10 ∧ c.qAssured = u16At img 22 ∧
    c.sFree = s16At img 6 ∧ c.sClose = s16At img 8 ∧ c.target = s16At img 14 ∧ c.alarm = s16At img 16 ∧
    c.dryRun = s16At img 18 ∧ c.polder = ⟨s16At img 27, s16At img 29⟩ ∧ c.sump = ⟨s16At img 31, s16At img 33⟩ ∧
    c.river = ⟨s16At img 35, s16At img 37⟩ ∧
    (img.length = 128 → c.digest =
      (crc16 ([BitVec.ofNat 8 c.bitRate, BitVec.ofNat 8 c.period] ++ (img.drop 4).take 8
        ++ [BitVec.ofNat 8 c.tHold, BitVec.ofNat 8 c.tStart])).toNat)

/-- An acceptance settles the rotation list: every fitted channel once, the retained order kept, the missing
appended (R105). -/
def Obligations.TheRotationListIsSettledAgainstTheFittedChannels : Prop :=
  ∀ (c : StationConfig) (retained : Option (List Nat)),
    let fitted (n : Nat) : Prop := ∃ k, chanNum k = n ∧ (quadGet c.pumps k).fitted = true
    let l := settleRotation c retained
    l.Nodup ∧ (∀ n, n ∈ l ↔ fitted n) ∧
    (∀ old, retained = some old → old.Nodup → (∀ n ∈ old, 1 ≤ n ∧ n ≤ 4) →
      ∃ added, l = old.filter (fun n => (fittedNums c).contains n) ++ added ∧ added.Pairwise (· < ·)) ∧
    ((retained = none ∨ ∃ old, retained = some old ∧ ¬ (old.Nodup ∧ ∀ n ∈ old, 1 ≤ n ∧ n ≤ 4)) →
      l.Pairwise (· < ·))

/-- The self-test passes to LISTEN or MUTE, a mismatch to DEAD with its record, and the station joins (R34, R35,
R38, R40, R48, R79, R102, R119, R153, R182). A channel placed in LOCAL without a working current counts as running by hand
(log entry 8). The channels are placed at the entry to JOINING (log entry 39). -/
def Obligations.SelfTestEndHandsOverInJoining : Prop :=
  ∀ s : State, s.port.state = .selftest →
    let returned : List RxByte := selfTestSent.map fun x => ⟨x.2.2, true⟩
    (∃ t, exec (.selftestEnd returned) s = .next t ∧
      t.port = { s.port with
        state := if s.port.muteHeld then .mute else .listen, selfTest := none, sync := true
        queue := t.port.queue, tx := t.port.tx } ∧
      t.ctl = { s.ctl with step := .handedOver } ∧ t.view = s.view ∧ t.maint = s.maint ∧ Joined s t) ∧
    ∀ (i : Nat) (r : RxByte) (x : Nat × Nat × Byte), selfTestSent[i]? = some x →
      ¬ (r.data = x.2.2 ∧ r.stopOk = true) →
      ∃ t, exec (.selftestEnd (returned.take i ++ [r])) s = .next t ∧ x.1 = i / 30 + 1 ∧ x.2.1 = i % 30 ∧
        t.port = { s.port with
          state := .dead, selfTest := some ⟨x.1, x.2.1, x.2.2.toNat, r.data.toNat⟩, sync := false
          queue := t.port.queue, tx := t.port.tx } ∧
        t.ctl = { s.ctl with step := .handedOver } ∧ t.view = s.view ∧ t.maint = s.maint ∧ Joined s t

/-- Receiver synchronisation, the seconds count and the two outcomes of the LINE_FAULT timer (R26, R33, R38). -/
def Obligations.TheReceiverTheSecondsAndTheLineFaultTimer : Prop :=
  ∀ s : State,
    (s.port.sync = true →
      exec .receiverSync s = .next { s with port := { s.port with sync := false, idle := some 14 } }) ∧
    (s.port.state ≠ .off →
      exec .secondsTick s = .next { s with port := { s.port with seconds := min (s.port.seconds + 1) 65535 } }) ∧
    (s.port.state = .off → exec .secondsTick s = .next s) ∧
    (s.port.state = .lineFault → s.port.lineFaultTimer.isSome = true →
      exec (.lineFaultTimerExpiry true) s = .next { s with port := { s.port with
        lineFaults := min (s.port.lineFaults + 1) 65535, lineFaultTimer := some 30000 } } ∧
      exec (.lineFaultTimerExpiry false) s = .next { s with port := { s.port with
        state := if s.sched.coord = some .joining then .listen else .active, lineFaultTimer := none } })

/-- Two agreeing selector samples set the mode of a channel that is not left out, and the mode moves it, into or out of the
hand-running set too (R1, R51, R102, R103, R111, R128, R137, R138, R139, R141, R142, R143, R144). Order within the event: log entry
5; a scan in progress: log entry 10; a LOCAL channel without a working current: log entry 8. Where a latch is on its way, it
arrives after this event (SupervisionCountsAndLatchesByTheDeglitchRun). -/
def Obligations.SelectorSamplesChangeTheModeAndMoveTheChannel : Prop :=
  ∀ (contacts : Quad Contacts) (s : State), s.acq.scanTimer.isSome = true → NoneOffered s →
    ∃ t, exec (.scanTimerExpiry contacts) s = .next t ∧ t.acq = { s.acq with scan := some 0 } ∧
      (∀ k,
        let x := readContacts (quadGet contacts k)
        let c := s.chan k
        let d := t.chan k
        let agreed := c.sample = some x ∧ c.combination ≠ x
        let leftOut := s.ctl.config.isSome = true ∧ s.fitted k = false
        d.sample = some x ∧ d.sample2 = c.sample ∧
        (agreed → d.combination = x) ∧ (¬ agreed → d.combination = c.combination) ∧
        (agreed → ¬ leftOut → d.mode = some (modeOf x) ∧ d.selector = selectorOf x) ∧
        (¬ agreed ∨ leftOut → d.mode = c.mode ∧ d.selector = c.selector) ∧
        (d.mode = c.mode ∨ s.fitted k = false ∨ c.state = none ∨ c.state = some .fault →
          d.state = c.state ∧ d.run = c.run ∧ d.reference = c.reference ∧ d.window = c.window ∧ d.rest = c.rest ∧
          quadGet t.disp.hand k = quadGet s.disp.hand k) ∧
        (d.mode ≠ c.mode → s.fitted k = true → c.state ≠ none → c.state ≠ some .fault →
          (d.mode = some .off → Placed s t k d.mode) ∧
          (d.mode = some .hand → Placed s t k d.mode) ∧
          (d.mode = some .auto → c.state = some .disabled ∨ c.state = some .inLocal → Placed s t k d.mode) ∧
          (d.mode ≠ some .auto → c.state = some .notice → t.arb.notice = none ∧ t.arb.holdOff =
            if s.arb.notice = none then s.arb.holdOff else none))) ∧
      t.ctl = s.ctl ∧ t.sup = s.sup ∧ t.allow = s.allow ∧ t.maint = s.maint ∧ t.disp.rotation = s.disp.rotation ∧
      t.disp.table = s.disp.table ∧ t.disp.lockout = s.disp.lockout ∧
      ((∃ k, (t.chan k).mode ≠ (s.chan k).mode ∧ s.fitted k = true) → FiguresFormed t) ∧
      ((∃ k, t.inR k ≠ s.inR k) → SpeedTargetFormed s t) ∧
      (s.reporting = true → t.disp.eHand ≠ s.disp.eHand → t.sched.coord = s.sched.coord → Prompted s t)

/-- The scan converts AIN0 to AIN6 in that order; each conversion advances the state of its own input by the transition tables,
and nothing else but the place in the scan (R1, R2, R5, R6, R7, R8, R9, R13). A held value without a scale: R16, log entry
22. A conversion out of turn is no event (log entries 4 and 10). -/
def Obligations.ConversionsAdvanceTheirOwnInputByTheTable : Prop :=
  (∀ i : Nat, (goodConversion i = true ↔ 3600 ≤ i ∧ i ≤ 21000) ∧ clampLoop i = max 4000 (min i 20000)) ∧
  (∀ (w : List Nat) (ic : Nat), w.length ≤ 8 →
    pushWindow w ic = (w ++ [ic]).drop (w.length + 1 - 8) ∧ (pushWindow w ic).getLast? = some ic) ∧
  ∀ (i : Nat) (s : State),
    (s.acq.scan = some 0 →
      ∃ y, exec (.conversionEnd .polder i) s = .next { s with acq := { s.acq with scan := some 1, polder := y } } ∧
        LevelTransition (s.ctl.config.map (·.polder)) i s.acq.polder y) ∧
    (s.acq.scan = some 1 →
      ∃ y, exec (.conversionEnd .sump i) s = .next { s with acq := { s.acq with scan := some 2, sump := y } } ∧
        LevelTransition (s.ctl.config.map (·.sump)) i s.acq.sump y) ∧
    (s.acq.scan = some 2 →
      ∃ y, exec (.conversionEnd .river i) s = .next { s with acq := { s.acq with scan := some 3, river := y } } ∧
        LevelTransition (s.ctl.config.map (·.river)) i s.acq.river y) ∧
    (∀ k, s.acq.scan = some (chanNum k + 2) →
      ∃ y, exec (.conversionEnd (.current k) i) s = .next { s with acq := { s.acq with
          scan := some (chanNum k + 3), currents := quadSet s.acq.currents k y } } ∧
        CurrentTransition i (quadGet s.acq.currents k) y) ∧
    ∀ input : Ain,
      s.acq.scan ≠ some (match input with
        | .polder => 0
        | .sump => 1
        | .river => 2
        | .current k => chanNum k + 2) →
      exec (.conversionEnd input i) s = .next s

/-- Levels scale linearly from Lo to Hi with a floor and are clamped; currents scale from 0 to full scale with a
floor (R3, R4). -/
def Obligations.LevelsAndCurrentsScaleToTheirRanges : Prop :=
  ((∀ (strap : Nat) (img : List Byte), validate strap img = none →
      ∀ sc ∈ [(configOf img).polder, (configOf img).sump, (configOf img).river], sc.lo < sc.hi ∧
        -32768 ≤ sc.lo ∧ sc.hi ≤ 32767) ∧
    (∀ img : List Byte, (configOf img).polder = ⟨s16At img 27, s16At img 29⟩ ∧
      (configOf img).sump = ⟨s16At img 31, s16At img 33⟩ ∧ (configOf img).river = ⟨s16At img 35, s16At img 37⟩) ∧
    ∀ (sc : LevelScale) (ic : Nat), sc.lo < sc.hi → -32768 ≤ sc.lo → sc.hi ≤ 32767 → 4000 ≤ ic → ic ≤ 20000 →
      let q := (sc.hi - sc.lo) * ((ic : Int) - 4000) / 16000
      scaleLevel sc ic = max (-9999) (min (sc.lo + q) 9999) ∧ 0 ≤ q ∧
      16000 * q ≤ (sc.hi - sc.lo) * ((ic : Int) - 4000) ∧ (sc.hi - sc.lo) * ((ic : Int) - 4000) < 16000 * (q + 1) ∧
      (sc.hi - sc.lo) * ((ic : Int) - 4000) ≤ 131070 * 16000 ∧ (131070 * 16000 : Int) < 2 ^ 32 ∧
      (ic = 4000 → sc.lo + q = sc.lo) ∧ (ic = 20000 → sc.lo + q = sc.hi) ∧
      -9999 ≤ scaleLevel sc ic ∧ scaleLevel sc ic ≤ 9999) ∧
    (∀ (img : List Byte) (k : Chan), (quadGet (configOf img).pumps k).fitted = true →
      (quadGet (configOf img).pumps k).fs ≤ 4000) ∧
    ∀ fs ic : Nat, 4000 ≤ ic → ic ≤ 20000 →
      (∃ r, r < 16000 ∧ fs * (ic - 4000) = 16000 * scaleCurrent fs ic + r) ∧
      (ic = 4000 → scaleCurrent fs ic = 0) ∧ scaleCurrent fs ic ≤ fs ∧ (fs = 0 → scaleCurrent fs ic = 0)

/-- A scan completion publishes states, working values, substitutes, degraded indication, head and currents (R1,
R5, R10, R11, R12, R13, R15, R16, R47, R51, R101, R102, R103). Hand-running without a working current is DEDUCED (log
entry 8); the published degraded indication before an acceptance is in log entry 15. Until the table is first formed Qmax is Qr
and Qmin its part at nmin; after that both are the table's (R101). The full scale of a channel that is not fitted: log entry
34; a head beyond the bounds that R15 names: log entry 37. -/
def Obligations.ScanCompletionPublishesTheWorkingFigures : Prop :=
  (∀ (sc : LevelScale) (w : List Nat),
    (w.length = 8 → ∃ v : Int, filteredLevel sc w = some v ∧ 8 * v ≤ (w.map (scaleLevel sc)).sum
      ∧ (w.map (scaleLevel sc)).sum < 8 * (v + 1)) ∧
    (w.length ≠ 8 → filteredLevel sc w = none)) ∧
  (∀ (fs : Nat) (w : List Nat),
    (w.length = 8 → ∃ v : Nat, filteredCurrent fs w = some v ∧ 8 * v ≤ (w.map (scaleCurrent fs)).sum
      ∧ (w.map (scaleCurrent fs)).sum < 8 * (v + 1)) ∧
    (w.length ≠ 8 → filteredCurrent fs w = none)) ∧
  (∀ (s : State) (k : Chan),
    (s.disp.table = none → s.fitted k = true →
      s.qmax k = (s.pump k).qr ∧ s.qmin k = (s.pump k).qr * (s.pump k).nmin / 1022) ∧
    (s.disp.table = none → s.fitted k = false → s.qmax k = 0 ∧ s.qmin k = 0) ∧
    ∀ d, s.disp.table.bind (quadGet · k) = some d → s.qmax k = d.qmax ∧ s.qmin k = d.qmin) ∧
  ∀ s : State, s.acq.scan = some 7 →
    (s.ctl.config = none → exec .scanCompletion s = .next { s with acq := { s.acq with
      scan := none
      pub := {
        polder := ⟨s.acq.polder.state, none, s.acq.polder.lastLoop⟩
        sump := ⟨s.acq.sump.state, none, s.acq.sump.lastLoop⟩
        river := ⟨s.acq.river.state, none, s.acq.river.lastLoop⟩
        degraded := true, head := none
        currents := quadOf fun k =>
          ⟨(quadGet s.acq.currents k).state, none, (quadGet s.acq.currents k).lastLoop⟩ } } }) ∧
    ∀ c, s.ctl.config = some c → ∃ t, exec .scanCompletion s = .next t ∧
      let p := t.acq.pub
      let level (x : LevelInput) (sc : LevelScale) : Option Int :=
        if x.state = .good ∨ x.state = .suspect then filteredLevel sc x.window
        else if x.state = .held then x.held else none
      t.acq = { s.acq with scan := none, pub := p } ∧
      (p.polder.state = s.acq.polder.state ∧ p.sump.state = s.acq.sump.state ∧ p.river.state = s.acq.river.state) ∧
      (p.polder.lastLoop = s.acq.polder.lastLoop ∧ p.sump.lastLoop = s.acq.sump.lastLoop
        ∧ p.river.lastLoop = s.acq.river.lastLoop) ∧
      (p.polder.working =
        if s.acq.polder.state = .substituted then s.acq.polder.held else level s.acq.polder c.polder) ∧
      (p.degraded = true ↔ s.acq.polder.state = .init ∨ s.acq.polder.state = .substituted
        ∨ (s.acq.polder.state = .held ∧ s.acq.polder.held = none)) ∧
      (∀ z, level s.acq.sump c.sump = some z → p.sump.working = some z) ∧
      (level s.acq.sump c.sump = none → p.sump.working = some (match p.polder.working with
        | some z => max (-9999) (min (z - c.sumpMargin) 9999)
        | none => c.dryRun)) ∧
      p.river.working = level s.acq.river c.river ∧
      (∀ z, p.sump.working = some z →
        p.head = some ((p.river.working.getD (s.allow.stage.getD c.sClose)) - z).toNat) ∧
      (∀ k, quadGet p.currents k = {
        state := (quadGet s.acq.currents k).state
        lastLoop := (quadGet s.acq.currents k).lastLoop
        working :=
          if (quadGet s.acq.currents k).state = .good ∨ (quadGet s.acq.currents k).state = .suspect then
            filteredCurrent (quadGet c.pumps k).fs (quadGet s.acq.currents k).window
          else none }) ∧
      (s.disp.table = none → ∀ k h, p.head = some h → t.disp.table.bind (quadGet · k) =
        if (quadGet c.pumps k).fitted then
          some ⟨fullDischarge (quadGet c.pumps k) h,
            fullDischarge (quadGet c.pumps k) h * (quadGet c.pumps k).nmin / 1022⟩
        else none) ∧
      (s.disp.table ≠ none → t.disp.table = s.disp.table) ∧
      (∀ k, quadGet t.disp.hand k = true ↔ t.isIn k .inLocal = true ∧
        ∀ w, (quadGet p.currents k).working = some w → (quadGet c.pumps k).iul ≤ w) ∧
      FiguresFormed t ∧
      (t.sched.riverSide = match s.sched.coord, p.river.working with
        | some _, some z => some (if c.sClose ≤ z then .atOrAbove else .below)
        | _, _ => s.sched.riverSide) ∧
      t.ctl = s.ctl ∧ t.allow = s.allow ∧ t.maint = s.maint ∧ t.disp.rotation = s.disp.rotation

/-- The dry-run lockout sets at the dry-run level, rests every turning channel, and clears 200 mm above it (R114,
R115, R117, R128, R144, R150). That the lockout comes before the current checks of the same scan: log entry 5. -/
def Obligations.DryRunLockoutSetsHoldsAndClears : Prop :=
  ∀ (c : StationConfig) (s : State), s.acq.scan = some 7 → s.ctl.config = some c →
    ∃ t, exec .scanCompletion s = .next t ∧ ∃ level, t.acq.pub.sump.working = some level ∧
      (s.disp.lockout = false → level ≤ c.dryRun →
        t.disp.lockout = true ∧ (∀ k, s.turning k = true → Rested s t k) ∧ (∀ k, t.turning k = false) ∧
        t.disp.crun = 0 ∧ t.disp.eAuto = 0 ∧ t.disp.nt = s.disp.nt ∧
        (∀ n, s.arb.notice = some n → t.arb.notice = none ∧ t.arb.holdOff = none ∧
          (s.isIn n.channel .notice = true → (t.chan n.channel).Off .idle)) ∧
        ∀ k, s.turning k = false → s.isIn k .notice = false → t.chan k = s.chan k) ∧
      (s.disp.lockout = false → c.dryRun < level → t.disp.lockout = false) ∧
      (s.disp.lockout = true → c.dryRun + 200 ≤ level → t.disp.lockout = false) ∧
      (s.disp.lockout = true → level < c.dryRun + 200 → t.disp.lockout = true)

/-- Overcurrent, start-limit and underload counts advance while their condition holds and latch at N (R111, R148, R151, R158,
R159, R160, R162, R163, R165, R184). A latch of a count is taken at that scan completion, unless the event that waits next
falls together with it (it acts on the channel or clears the latches): whether that one event is taken first is a free value, and the latch
arrives at its end (log entry 33). -/
def Obligations.SupervisionCountsAndLatchesByTheDeglitchRun : Prop :=
  (∀ (c : StationConfig) (s : State) (k : Chan), s.acq.scan = some 7 → s.ctl.config = some c →
    (quadGet c.pumps k).fitted = true →
    ∃ t, exec .scanCompletion s = .next t ∧ ∃ level, t.acq.pub.sump.working = some level ∧
      (s.disp.lockout = true ∨ c.dryRun < level →
        let p := quadGet c.pumps k
        let n := match p.deglitch with | 1 => 10 | 2 => 20 | 3 => 40 | _ => 5
        let w := quadGet s.sup.watch k
        let count (holds : Nat → Bool) (m : Nat) : Nat :=
          match (quadGet t.acq.pub.currents k).working with
          | some i => if holds i then min (m + 1) n else 0
          | none => 0
        let oc := count (fun i => (s.isIn k .running || s.isIn k .stopping) && decide (p.ioc < i)) w.overcurrent
        let sl := count (fun i => s.isIn k .starting && decide (p.istart < i)) w.startLimit
        let ul := count (fun i => s.isIn k .running && decide (i < p.iul)) w.underload
        let free := Config.latchWaits (chanNum k) ((quadGet t.acq.pub.currents k).working.getD 0) = true
        let agreed (x : Combination) : Prop := (s.chan k).sample = some x ∧ (s.chan k).combination ≠ x
        let meets : Prop := match s.pending with
          | .startWindowExpiry j :: _ => j = k ∧ s.isIn k .starting = true ∧ (s.chan k).window.isSome = true
          | .slewTimerExpiry :: _ => s.disp.slewTimer.isSome = true ∧ s.isIn k .stopping = true ∧
            (s.chan k).reference ≤ p.nmin + c.slewStep ∧ p.nmin ≤ (s.chan k).reference + c.slewStep
          | .scanTimerExpiry cs :: _ => s.acq.scanTimer.isSome = true ∧ agreed (readContacts (quadGet cs k)) ∧
            modeOf (readContacts (quadGet cs k)) ≠ .auto ∧ (s.chan k).mode ≠ some (modeOf (readContacts (quadGet cs k)))
          | .clearFaults :: _ => s.portOpen = true ∧ s.maint.held = none ∧ s.maint.response = none
          | .characterReceived c low :: _ => c = 0x0D#8 ∧ low = false ∧ s.portOpen = true ∧ s.maint.held = none ∧
            s.maint.response = none ∧ readLine s.maint.badLine s.maint.buffer = .request .clearFaults
          | .responseEnd :: _ => s.maint.response.isSome = true ∧ s.maint.held = some (.request .clearFaults)
          | .faultResetSample a :: _ => a = true ∧ s.ctl.resetHeld = false ∧ s.sup.level = some false ∧
            s.sup.samples.take 4 = [true, true, true, true]
          | _ => False
        let latched (kind : FaultKind) : Prop := ∃ waits : Bool,
          ((∀ rest, s.pending ≠ .allocationCompletion :: rest) → (waits = true ↔ meets ∧ free)) ∧
          (∀ rest, s.pending = .allocationCompletion :: rest → waits = true →
            s.alloc.snapshot.isSome = true ∧ s.reporting = true ∧ s.inR k = true ∧ free) ∧
          (waits = false → quadGet t.sup.watch k = ⟨0, 0, 0, some kind⟩ ∧ (t.chan k).Off .fault ∧
            (t.chan k).rest = none ∧ quadGet t.sup.offered k = quadGet s.sup.offered k ∧ SpeedTargetFormed s t) ∧
          (waits = true → quadGet t.sup.watch k = ⟨oc, sl, ul, w.latch⟩ ∧ t.chan k = s.chan k ∧
            quadGet t.sup.offered k = some kind)
        (n ≤ oc ∨ n ≤ sl → latched .overcurrent) ∧
        (oc < n → sl < n → n ≤ ul → latched .underload) ∧
        (oc < n → sl < n → ul < n →
          quadGet t.sup.watch k = ⟨oc, sl, ul, w.latch⟩ ∧ t.chan k = s.chan k ∧
            quadGet t.sup.offered k = quadGet s.sup.offered k))) ∧
  ∀ s : State,
    let s0 : State := { s with sup := { s.sup with offered := ⟨none, none, none, none⟩ } }
    let arrivesAfter (c : Instr) : Prop :=
      ∃ t u, exec c s0 = .next t ∧ exec c s = .next u ∧ LatchesArrived s.sup.offered t u
    (∀ contacts, arrivesAfter (.scanTimerExpiry contacts)) ∧ arrivesAfter .allocationCompletion ∧
    arrivesAfter .slewTimerExpiry ∧ (∀ j, arrivesAfter (.startWindowExpiry j)) ∧
    (s.portOpen = true → s.maint.held = none → s.maint.response = none → arrivesAfter .clearFaults ∧
      (readLine s.maint.badLine s.maint.buffer = .request .clearFaults →
        arrivesAfter (.characterReceived 0x0D#8 false))) ∧
    (s.maint.response.isSome = true → s.maint.held = some (.request .clearFaults) → arrivesAfter .responseEnd) ∧
    (s.sup.level = some false → s.sup.samples.take 4 = [true, true, true, true] → s.ctl.resetHeld = false →
      arrivesAfter (.faultResetSample true))

/-- A river stage on the other side of S_close, a fault latched and a changed E_hand at a scan completion are prompt causes in
COORDINATING and LEAVING: a STAGE at once, or the prompt pending mark; in LEAVING the QUIT condition is tested after them (R42,
R46, R50, R51, R52, R53, R55, R56, R102, R163). Several causes of one event: log entry 5. -/
def Obligations.ARiverCrossingIsAPromptCause : Prop :=
  ∀ (c : StationConfig) (s : State), s.acq.scan = some 7 → s.ctl.config = some c → s.reporting = true →
    ∃ t, exec .scanCompletion s = .next t ∧
      let crossed := ∃ z side, t.acq.pub.river.working = some z ∧ s.sched.riverSide = some side ∧
        (if c.sClose ≤ z then RiverSide.atOrAbove else .below) ≠ side
      let latched := ∃ k, s.turning k = true ∧ t.isIn k .fault = true
      let handChanged := t.disp.eHand ≠ s.disp.eHand
      (s.sched.coord = some .coordinating → t.sched.coord = some .coordinating) ∧
      (crossed ∨ latched ∨ handChanged → t.sched.coord = s.sched.coord → Prompted s t) ∧ QuitTested s t ∧
      (¬ (crossed ∨ latched ∨ handChanged) → t.sched.counter = s.sched.counter ∧
        (t.sched.coord = s.sched.coord → t.sched.prompt = s.sched.prompt))

/-- A debounced rising edge at the fault-reset input, or CLEAR FAULTS, clears every latch, and each channel leaves FAULT by its
mode (R51, R102, R152, R164, R165, R187). A channel placed in LOCAL without a working current: log entry 8. Where a latch is on
its way, it arrives after the clear (SupervisionCountsAndLatchesByTheDeglitchRun). -/
def Obligations.AnEdgeOrClearFaultsClearsTheLatches : Prop :=
  ∀ s : State,
    (s.ctl.resetHeld = false → s.sup.level = some false → s.sup.samples.take 4 = [true, true, true, true] →
      NoneOffered s → ∃ t, exec (.faultResetSample true) s = .next t ∧ t.sup.level = some true ∧
        t.sup.samples = [true, true, true, true, true] ∧ t.maint = s.maint ∧ Cleared s t) ∧
    (s.portOpen = true → s.maint.held = none → s.maint.response = none → NoneOffered s →
      ∃ t, exec .clearFaults s = .next t ∧ t.sup.level = s.sup.level ∧ t.sup.samples = s.sup.samples ∧
        t.maint = { s.maint with response := some .ok } ∧ Cleared s t) ∧
    ∀ a : Bool, s.ctl.resetHeld = false →
      ¬ (a = true ∧ s.sup.level = some false ∧ s.sup.samples.take 4 = [true, true, true, true]) →
      exec (.faultResetSample a) s = .next { s with sup := { s.sup with
        samples := (a :: s.sup.samples).take 5
        level := if s.sup.samples.take 4 = [a, a, a, a] then some a else s.sup.level } }

/-- At its own slots, and only there, an ACTIVE port with a recessive line begins START, then STAGE, then QUIT (R21,
R22, R123). The idle time is an operand of the row (log entry 11). -/
def Obligations.ASlotBeginsTheFirstQueuedFrame : Prop :=
  ∀ (m : Nat) (s : State), s.port.state = .active → s.port.tx = none → s.port.sync = false →
    let offset := match s.port.lastSender with
      | some l => (s.own + 23 - l) % 24
      | none => s.own - 1
    let idle := 14 + 4 * offset + 96 * m
    let q := s.port.queue
    let begun (f : Frame) (rest : TxQueue) : State :=
      { s with port := { s.port with queue := rest, tx := some ⟨f, false⟩, idle := none } }
    (∀ p, q.start = some p → exec (.slotStart idle false) s = .next { begun (.start p) { q with start := none } with
      arb := match s.arb.notice with
        | some n => if n.number = p.number then { s.arb with notice := some { n with phase := .onLine } } else s.arb
        | none => s.arb }) ∧
    (∀ p, q.start = none → q.stage = some p →
      exec (.slotStart idle false) s = .next (begun (.stage p) { q with stage := none })) ∧
    (∀ p, q.start = none → q.stage = none → q.quit = some p →
      exec (.slotStart idle false) s = .next (begun (.quit p) { q with quit := none })) ∧
    (q ≠ .empty → exec (.slotStart idle true) s = .next { s with port := { s.port with idle := some idle } }) ∧
    (q = .empty → ∀ d, exec (.slotStart idle d) s = .next s) ∧
    ∀ (i : Nat) (d : Bool), (∀ j, i ≠ 14 + 4 * offset + 96 * j) → exec (.slotStart i d) s = .next s

/-- A contention loss counts, makes the last sender unknown, and returns the frame or discards it (R23, R52, R53,
R123, R125). -/
def Obligations.AContentionLossReturnsOrDiscardsTheFrame : Prop :=
  ∀ (f : Frame) (withdrawn : Bool) (s : State), s.port.tx = some ⟨f, withdrawn⟩ →
    let q := s.port.queue
    let lost (rest : TxQueue) : Port := { s.port with
      losses := min (s.port.losses + 1) 65535, lossCount := min (s.port.lossCount + 1) 16, lastSender := none
      tx := none, queue := rest }
    (∀ p, f = .start p → withdrawn = false → q.start = none →
      exec .contentionLoss s = .next { s with
        port := lost { q with start := some p }
        arb := match s.arb.notice with
          | some n => if n.number = p.number then { s.arb with notice := some { n with phase := .queued } } else s.arb
          | none => s.arb }) ∧
    (∀ p, f = .quit p → withdrawn = false → q.quit = none →
      exec .contentionLoss s = .next { s with port := lost { q with quit := some p } }) ∧
    (∀ p, f = .stage p → withdrawn = false → q.stage = none →
      s.sched.prompt = false ∨ s.sched.spacingTimer.isSome = true →
      exec .contentionLoss s = .next { s with port := lost { q with stage := some p } }) ∧
    (∀ p, f = .stage p → withdrawn = false → s.reporting = true → s.sched.prompt = true →
      s.sched.spacingTimer = none → s.port.state = .active →
      ∃ t r, exec .contentionLoss s = .next t ∧ Composed s t r ∧ t.port = lost t.port.queue) ∧
    (∀ p, f = .stage p → q.stage.isSome = true → s.sched.prompt = false →
      exec .contentionLoss s = .next { s with port := lost q }) ∧
    (∀ p, f = .start p → withdrawn = true ∨ q.start.isSome = true →
      (∀ n, s.arb.notice = some n → n.number ≠ p.number) →
      exec .contentionLoss s = .next { s with port := lost q })

/-- A stuck line in LISTEN or ACTIVE, a drive failure of an own frame, and the end of the frame that won a sixteenth loss put
the port in LINE_FAULT, and the frames it discards are reported (R20, R23, R25, R28, R31, R52, R53, R56, R123). The frame in
progress as an operand, and the states in which a stuck line is no event: log entry 24; which frame ends the wait of a
sixteenth loss: log entry 17; a QUIT that is discarded behind a lost STAGE (order of the discard reports): log entry 6; the idle
time that is not counted after the entry: log entry 11. -/
def Obligations.LineFaultIsEnteredOnAStuckLineOrADriveFailure : Prop :=
  ∀ s : State,
    let sender (f : RxFrame) : Option Nat :=
      let d := ((f.first :: f.rest).take 261).map (·.data)
      if 4 ≤ d.length ∧ u8At d 3 = 255 - (u8At d 0 + u8At d 1 + u8At d 2) % 256 then some (u8At d 1) else none
    let fault (p : Port) : Port := { p with
      state := .lineFault, lineFaults := min (p.lineFaults + 1) 65535, lineFaultTimer := some 30000
      lossCount := 0, lastSender := none, queue := ⟨none, none, none⟩, tx := none }
    let stands (s t : State) : Prop := t.ctl = s.ctl ∧ t.acq = s.acq ∧ t.allow = s.allow ∧ t.disp = s.disp
      ∧ t.chans = s.chans ∧ t.sup = s.sup ∧ t.maint = s.maint
    let entered (frame : Option RxFrame) (t : State) : Prop :=
      t.port = { fault s.port with
        idle := none
        bad := if frame.isSome = true ∧ s.port.sync = false then min (s.port.bad + 1) 65535 else s.port.bad
        firstError := match frame with
          | some f => if s.port.sync = false ∧ s.port.firstError = none then
              some ⟨.framing, sender f, f.first.data.toNat, s.port.seconds⟩ else s.port.firstError
          | none => s.port.firstError } ∧
      FramesDiscarded s t ∧ stands s t
    (∀ frame, s.port.state = .listen ∨ s.port.state = .active →
      ∃ t, exec (.stuckLine frame) s = .next t ∧ entered frame t) ∧
    (∀ frame, s.port.state ≠ .listen → s.port.state ≠ .active → exec (.stuckLine frame) s = .next s) ∧
    (∀ frame, s.port.state = .active → s.port.tx.isSome = true →
      ∃ t, exec (.driveFailure frame) s = .next t ∧ entered frame t) ∧
    ∀ f : RxFrame, s.receives = true → s.port.state = .listen ∨ s.port.state = .active → 16 ≤ s.port.lossCount →
      (∀ g, checkFrame false f ≠ .good s.own g) →
      ∀ c ∈ [Instr.stageReportReceived f, .startNoticeReceived f, .quitNoticeReceived f, .badFrame f],
        ∃ t u, exec c s = .next t ∧ exec c { s with port := { s.port with lossCount := 0 } } = .next u ∧
          t.port = fault u.port ∧ FramesDiscarded u t ∧ stands u t ∧ t.view = u.view

/-- A completed START starts the hold-off, a completed STAGE the spacing timer, a completed QUIT ends in LEFT (R24,
R44, R52, R53, R56, R123). -/
def Obligations.ACompletedTransmissionIsReportedToItsBlock : Prop :=
  ∀ (f : Frame) (withdrawn : Bool) (s : State), s.port.tx = some ⟨f, withdrawn⟩ →
    let port : Port := { s.port with lastSender := some s.own, lossCount := 0, idle := some 0, tx := none }
    (∀ p n, f = .start p → s.arb.notice = some n → n.number = p.number →
      exec .transmissionComplete s = .next { s with
        port := port
        arb := { s.arb with notice := some { n with phase := .holding }, holdOff := some (s.cfg.tHold * 1000) } }) ∧
    (∀ p, f = .start p → (∀ n, s.arb.notice = some n → n.number ≠ p.number) →
      exec .transmissionComplete s = .next { s with port := port }) ∧
    (∀ p, f = .stage p → exec .transmissionComplete s = .next { s with
      port := port
      sched := { s.sched with
        spacingTimer := some 250, restart := if p.flags.restarted then false else s.sched.restart } }) ∧
    (∀ p, f = .quit p → s.sched.coord = some .leaving → exec .transmissionComplete s = .next { s with
      port := { port with queue := { s.port.queue with stage := none } }
      sched := { s.sched with
        coord := some .left, reportTimer := none, spacingTimer := none, prompt := false, quitOffered := false }
      alloc := { s.alloc with timer := none } })

/-- A good STAGE of a peer is normalised and stored, and its record becomes FRESH with age 0 (R30, R59, R60). -/
def Obligations.AGoodStageRefreshesTheSendersRecord : Prop :=
  ∀ (f : RxFrame) (n : Nat) (p : StagePayload) (s : State), s.receives = true →
    checkFrame false f = .good n (.stage p) → n ≠ s.own → s.port.lossCount < 16 → s.view.records.length = 24 →
    let level (z : Int) : Int := if -9999 ≤ z ∧ z ≤ 9999 then z else -32768
    ∃ t, exec (.stageReportReceived f) s = .next t ∧
      t = { s with
        port := { s.port with
          good := min (s.port.good + 1) 65535, lastSender := some n, lossCount := 0, idle := some 0 }
        view := t.view } ∧
      t.view.ageingTimer = s.view.ageingTimer ∧ (∀ m, 1 ≤ m → m ≠ n → t.record m = s.record m) ∧
      t.record n = {
        status := .fresh
        mismatch := decide (p.digest ≠ s.cfg.digest)
        report := some { p with
          polder := level p.polder, river := level p.river, urgency := min p.urgency 1000
          cav := min p.cav 16000, demand := min (min p.demand 16000) (min p.cav 16000)
          eAuto := min p.eAuto 16000, eHand := min p.eHand 16000 }
        lastNumber := p.number
        age := 0
        missed := if (s.record n).status = .absent ∨ p.flags.restarted = true then (s.record n).missed
          else min ((s.record n).missed + (p.number + 511 - (s.record n).lastNumber) % 256) 255
        pending := if p.flags.restarted then none else (s.record n).pending }

/-- A good QUIT of a peer sets its record to QUIT and removes its pending start (R30, R61). -/
def Obligations.AGoodQuitSetsTheSendersRecordToQuit : Prop :=
  ∀ (f : RxFrame) (n : Nat) (p : QuitPayload) (s : State), s.receives = true →
    checkFrame false f = .good n (.quit p) → n ≠ s.own → s.port.lossCount < 16 → s.view.records.length = 24 →
    ∃ t, exec (.quitNoticeReceived f) s = .next t ∧
      t = { s with
        port := { s.port with
          good := min (s.port.good + 1) 65535, lastSender := some n, lossCount := 0, idle := some 0 }
        view := t.view } ∧
      t.view.ageingTimer = s.view.ageingTimer ∧ (∀ m, 1 ≤ m → m ≠ n → t.record m = s.record m) ∧
      t.record n = { s.record n with
        status := .quit, lastNumber := p.number, pending := none
        missed := if (s.record n).report.isSome = true then
            min ((s.record n).missed + (p.number + 512 - (s.record n).lastNumber) % 256) 255
          else (s.record n).missed }

/-- A good START of a peer is held as its pending start and ranked against the own notice (R30, R62, R120, R124,
R125, R126, R128, R146). -/
def Obligations.AGoodStartIsHeldAndRanked : Prop :=
  ∀ (f : RxFrame) (n : Nat) (p : StartPayload) (s : State), s.receives = true →
    checkFrame false f = .good n (.start p) → n ≠ s.own → 1 ≤ s.own → s.port.lossCount < 16 →
    s.view.records.length = 24 →
    let u := min p.urgency 1000
    let held (yielded : Bool) : PendingStart :=
      ⟨p.channel, p.power, u, p.number, (s.cfg.tHold + s.cfg.tStart) * 10, yielded⟩
    let port : Port := { s.port with
      good := min (s.port.good + 1) 65535, lastSender := some n, lossCount := 0, idle := some 0 }
    ∃ t, exec (.startNoticeReceived f) s = .next t ∧
      (s.arb.notice = none → t = { s with port := port, view := t.view } ∧
        t.record n = { s.record n with pending := some (held false) }) ∧
      (∀ o, s.arb.notice = some o → o.urgency > u ∨ (o.urgency = u ∧ s.own < n) →
        t = { s with port := port, view := t.view } ∧
        t.record n = { s.record n with pending := some (held true) }) ∧
      (∀ o, s.arb.notice = some o → u > o.urgency ∨ (u = o.urgency ∧ n < s.own) →
        t.arb.notice = none ∧ t.arb.holdOff = none ∧ t.arb.counter = s.arb.counter ∧
        (s.isIn o.channel .notice = true → (t.chan o.channel).Off .idle) ∧
        (∀ k, k ≠ o.channel → t.chan k = s.chan k) ∧
        (t.record n).pending = some (held false) ∧ t.disp.rotation = s.disp.rotation ∧
        (o.phase = .queued → t.port.queue.start = none)) ∧
      t.view.ageingTimer = s.view.ageingTimer ∧ t.ctl = s.ctl ∧ t.acq = s.acq ∧ t.sup = s.sup ∧ t.allow = s.allow ∧ t.maint = s.maint ∧
      ∀ m, 1 ≤ m → m ≠ n → m ≠ s.own → t.record m = s.record m

/-- A bad frame is counted and recorded first; a good frame with the own number mutes the port, and the frames it discards are
reported (R20, R28, R29, R30, R31, R32, R53, R56, R123). A QUIT that is discarded behind a lost STAGE: order of the discard
reports, log entry 6; a wait of R38 that has not ended: log entry 38. -/
def Obligations.ABadFrameIsCountedAndAnOwnNumberMutes : Prop :=
  (∀ (f : RxFrame) (e : ErrorKind) (s : State), s.receives = true → checkFrame false f = .bad e →
      s.port.lossCount < 16 →
      exec (.badFrame f) s = .next { s with port := { s.port with
        bad := min (s.port.bad + 1) 65535, lastSender := none, idle := some 0
        firstError := match s.port.firstError with
          | some r => some r
          | none => some ⟨e,
              let d := ((f.first :: f.rest).take 261).map (·.data)
              if 4 ≤ d.length ∧ u8At d 3 = 255 - (u8At d 0 + u8At d 1 + u8At d 2) % 256 then some (u8At d 1) else none,
              f.first.data.toNat, s.port.seconds⟩ } }) ∧
    ∀ (f : RxFrame) (g : Frame) (s : State), s.receives = true → checkFrame false f = .good s.own g →
      ∀ c ∈ [Instr.stageReportReceived f, .startNoticeReceived f, .quitNoticeReceived f],
        ∃ t, exec c s = .next t ∧
          t.port = { s.port with
            state := .mute, good := min (s.port.good + 1) 65535, lastSender := some s.own, lossCount := 0
            idle := some 0
            lineFaultTimer := if s.port.state = .mute then s.port.lineFaultTimer else none
            queue := if s.port.state = .mute then s.port.queue else ⟨none, none, none⟩, tx := none } ∧
          (s.port.state ≠ .mute → FramesDiscarded s t) ∧ (s.port.state = .mute → t.arb = s.arb ∧ t.sched = s.sched) ∧
          (∀ m, 1 ≤ m → m ≠ s.own → t.record m = s.record m) ∧
          t.ctl = s.ctl ∧ t.maint = s.maint ∧ t.chans = s.chans ∧ t.disp = s.disp ∧ t.acq = s.acq ∧ t.sup = s.sup ∧ t.allow = s.allow

/-- The six reception checks are applied in order and the first that fails names the error kind (R20, R29). A frame as the bytes
up to its gap, and bytes past the expected count: log entry 7. -/
def Obligations.ReceptionAppliesTheSixChecksInOrder : Prop :=
  ∀ f : RxFrame,
    let kept := (f.first :: f.rest).take 261
    let head := kept.map (·.data)
    let l := if 4 ≤ head.length ∧ u8At head 3 = 255 - (u8At head 0 + u8At head 1 + u8At head 2) % 256 then
      kept.take (6 + u8At head 2) else kept
    let d := l.map (·.data)
    let header := 4 ≤ d.length ∧ u8At d 3 = 255 - (u8At d 0 + u8At d 1 + u8At d 2) % 256
    let framing := (∀ b ∈ l, b.stopOk = true) ∧ 4 ≤ l.length ∧ (header → 6 + u8At d 2 ≤ l.length)
    let sender := 1 ≤ u8At d 1 ∧ u8At d 1 ≤ 24
    let kind := u8At d 0 = 0x11 ∨ u8At d 0 = 0x22 ∨ u8At d 0 = 0x33
    let length := (u8At d 0 = 0x11 → u8At d 2 = 24) ∧ (u8At d 0 = 0x22 → u8At d 2 = 6)
      ∧ (u8At d 0 = 0x33 → u8At d 2 = 2)
    let crc := be16 (crc16 (d.take (d.length - 2))).toNat = d.drop (d.length - 2)
    let v := checkFrame false f
    (v = .bad .framing ↔ ¬ framing) ∧
    (v = .bad .headerCheck ↔ framing ∧ ¬ header) ∧
    (v = .bad .sender ↔ framing ∧ header ∧ ¬ sender) ∧
    (v = .bad .kind ↔ framing ∧ header ∧ sender ∧ ¬ kind) ∧
    (v = .bad .length ↔ framing ∧ header ∧ sender ∧ kind ∧ ¬ length) ∧
    (v = .bad .payloadCrc ↔ framing ∧ header ∧ sender ∧ kind ∧ length ∧ ¬ crc) ∧
    ((∃ n g, v = .good n g) ↔ framing ∧ header ∧ sender ∧ kind ∧ length ∧ crc) ∧
    (∀ n g, v = .good n g → n = u8At d 1 ∧ kindCode g = u8At d 0) ∧
    checkFrame true f = .bad .framing

/-- Every STAGE, START and QUIT frame passes the checks and is read back as it was sent (R20, R29, R30, R189). -/
def Obligations.EveryFrameIsReadAsItWasSent : Prop :=
  ∀ (n : Nat) (g : Frame), 1 ≤ n → n ≤ 24 →
    (match g with
      | .stage p => p.number < 256 ∧ (-32768 ≤ p.polder ∧ p.polder ≤ 32767) ∧ (-32768 ≤ p.river ∧ p.river ≤ 32767)
          ∧ ∀ x ∈ [p.urgency, p.demand, p.cav, p.eAuto, p.eHand, p.runPower, p.instPower, p.share, p.digest],
            x < 65536
      | .start p => p.channel < 256 ∧ p.urgency < 65536 ∧ p.power < 65536 ∧ p.number < 256
      | .quit p => p.reason < 256 ∧ p.number < 256) →
    checkFrame false (received (frameBytes n g)) = .good n g

/-- In contention START beats STAGE and QUIT, STAGE beats QUIT, and equal kinds go by the first differing number bit
(R18, R19, R22, R23, R189). -/
def Obligations.ContentionPrefersStartThenStageThenTheLowerBit : Prop :=
  ∀ (a b : Nat) (f g : Frame), 1 ≤ a → a ≤ 24 → 1 ≤ b → b ≤ 24 →
    (kindCode g = 0x22 → kindCode f = 0x11 ∨ kindCode f = 0x33 →
      losesTo (frameBits a f) (frameBits b g) = true ∧ losesTo (frameBits b g) (frameBits a f) = false) ∧
    (kindCode g = 0x11 → kindCode f = 0x33 →
      losesTo (frameBits a f) (frameBits b g) = true ∧ losesTo (frameBits b g) (frameBits a f) = false) ∧
    (kindCode f = kindCode g → ∀ i, a.testBit i = true → b.testBit i = false →
      (∀ j, j < i → a.testBit j = b.testBit j) →
      losesTo (frameBits a f) (frameBits b g) = true ∧ losesTo (frameBits b g) (frameBits a f) = false)

/-- The end of the join listen starts coordination with a first STAGE and the allocation timer (R39, R42, R43, R49,
R50, R80, R101, R103). Order of the parts: log entry 5. -/
def Obligations.TheEndOfTheListenStartsCoordination : Prop :=
  ∀ s : State, s.sched.coord = some .joining → s.sched.listenTimer.isSome = true →
    ∃ t p, exec .listenTimerExpiry s = .next t ∧
      t.sched = { s.sched with
        coord := some .coordinating, listenTimer := none, counter := (s.sched.counter + 1) % 256
        reportTimer := some (2 ^ s.cfg.period * 1000), prompt := false } ∧
      t.port = { s.port with
        state := if s.port.state = .listen then .active else s.port.state
        queue := if s.port.state = .listen ∨ s.port.state = .active then { s.port.queue with stage := some p }
          else s.port.queue } ∧
      t.alloc = { s.alloc with timer := some 1000 } ∧
      p.number = s.sched.counter ∧ p.flags = ⟨s.sched.restart, s.acq.pub.degraded, s.alloc.isolated,
        s.disp.lockout, false, s.allow.blind⟩ ∧
      p.polder = s.acq.pub.polder.working.getD (-32768) ∧ p.river = s.acq.pub.river.working.getD (-32768) ∧
      p.urgency = s.alloc.urgency ∧ p.demand = s.alloc.demand ∧ p.cav = s.alloc.cav ∧ p.share = s.alloc.share ∧
      p.eAuto = t.disp.eAuto ∧ p.eHand = t.disp.eHand ∧ p.runPower = t.disp.runPower ∧
      p.instPower = s.disp.instPower.getD 0 ∧ p.digest = s.cfg.digest ∧
      (1 ≤ s.own → s.own ≤ s.view.records.length → (t.record s.own).report = some p) ∧
      (∀ h, s.acq.pub.head = some h → ∀ k, t.disp.table.bind (quadGet · k) =
        if s.fitted k then some ⟨fullDischarge (s.pump k) h, fullDischarge (s.pump k) h * (s.pump k).nmin / 1022⟩
        else none) ∧
      FiguresFormed t ∧ t.chans = s.chans ∧ t.arb = s.arb ∧ t.acq = s.acq ∧ t.sup = s.sup ∧ t.ctl = s.ctl

/-- The report timer composes a STAGE; the spacing timer composes a pending one (R27, R42, R43, R44, R50, R52, R64).
-/
def Obligations.ReportAndSpacingTimersComposeReports : Prop :=
  ∀ s : State,
    (s.reporting = true → s.sched.reportTimer.isSome = true →
      ∃ t p, exec .reportTimerExpiry s = .next t ∧ Composed s t p ∧
        t = { s with sched := t.sched, view := t.view, port := { s.port with queue := t.port.queue } }) ∧
    (s.sched.spacingTimer.isSome = true → s.reporting = true → s.sched.prompt = true →
      ∃ t p, exec .spacingTimerExpiry s = .next t ∧
        Composed { s with sched := { s.sched with spacingTimer := none } } t p ∧
        t = { s with sched := t.sched, view := t.view, port := { s.port with queue := t.port.queue } }) ∧
    (s.sched.spacingTimer.isSome = true → s.reporting = false ∨ s.sched.prompt = false →
      exec .spacingTimerExpiry s = .next { s with sched := { s.sched with spacingTimer := none } })

/-- An ageing expiry ages the heard and LOST records, derives their status and counts pending starts down (R62,
R63). -/
def Obligations.AgeingDerivesTheStatusAndCountsPendingStartsDown : Prop :=
  ∀ s : State, s.view.ageingTimer.isSome = true →
    ∃ t, exec .ageingTimerExpiry s = .next t ∧ t = { s with view := t.view } ∧
      t.view.ageingTimer = s.view.ageingTimer ∧ t.view.records.length = s.view.records.length ∧
      ∀ n, 1 ≤ n → n ≤ s.view.records.length →
        let r := s.record n
        let a := min (r.age + 1) 65535
        let ageing := r.status = .fresh ∨ r.status = .aged ∨ r.status = .lost
        (ageing → (t.record n).age = a ∧ (t.record n).status =
          if a ≤ 20 * 2 ^ s.cfg.period then .fresh else if a ≤ 50 * 2 ^ s.cfg.period then .aged else .lost) ∧
        (¬ ageing → (t.record n).age = r.age ∧ (t.record n).status = r.status) ∧
        (∀ p, r.pending = some p → 1 < p.remaining →
          (t.record n).pending = some { p with remaining := p.remaining - 1 }) ∧
        (∀ p, r.pending = some p → p.remaining ≤ 1 → (t.record n).pending = none) ∧
        (r.pending = none → (t.record n).pending = none) ∧
        (t.record n).report = r.report ∧ (t.record n).mismatch = r.mismatch ∧
        (t.record n).lastNumber = r.lastNumber ∧ (t.record n).missed = r.missed

/-- The allocation timer forms the discharge table and takes one snapshot of records, levels, port, channels and
lockout; a change of E_hand by the table is a prompt cause (R51, R67, R81, R101, R103). That the snapshot holds the E_hand
formed with this table: log entry 5; an expiry while a computation is in progress: log entry 35. -/
def Obligations.TheAllocationTimerTakesOneSnapshot : Prop :=
  ∀ s : State, s.alloc.timer.isSome = true →
    ∃ t x, exec .allocationTimerExpiry s = .next t ∧ t.alloc.snapshot = some x ∧
      x.records = s.view.records ∧ x.port = s.port.state ∧ x.coord = s.sched.coord ∧
      x.river = s.acq.pub.river.working ∧ x.level = s.acq.pub.polder.working ∧
      x.degraded = s.acq.pub.degraded ∧ x.lockout = s.disp.lockout ∧ x.eHand = t.disp.eHand ∧
      (∀ k, quadGet x.chans k = ⟨s.fitted k, (s.chan k).mode, s.chanState k, t.qmax k⟩) ∧
      (∀ h, s.acq.pub.head = some h → ∀ k, t.disp.table.bind (quadGet · k) =
        if s.fitted k then some ⟨fullDischarge (s.pump k) h, fullDischarge (s.pump k) h * (s.pump k).nmin / 1022⟩
        else none) ∧
      FiguresFormed t ∧ t.alloc = { s.alloc with snapshot := some x, timer := t.alloc.timer } ∧
      (s.reporting = true → t.disp.eHand ≠ s.disp.eHand → t.sched.coord = s.sched.coord → Prompted s t) ∧
      t.chans = s.chans ∧ t.allow = s.allow ∧ t.acq = s.acq ∧ t.sup = s.sup ∧ t.ctl = s.ctl

/-- A completion publishes the figures computed from its snapshot; Q_tgt is the share in COORDINATING and 0
elsewhere (R67, R77, R81, R82, R95, R106). In LEFT a completion publishes and takes no decision (log entry 19). -/
def Obligations.TheCompletionPublishesTheComputationOfItsSnapshot : Prop :=
  ∀ (x : Snapshot) (s : State), s.alloc.snapshot = some x →
    let e := evaluate s.cfg x s.allow
    let r := allocate s.cfg x e
    NoneOffered s → ∃ t, exec .allocationCompletion s = .next t ∧ t.allow = e ∧
      t.alloc.snapshot = none ∧ t.alloc.urgency = r.urgency ∧ t.alloc.cav = r.cav ∧ t.alloc.demand = r.demand ∧
      t.alloc.share = r.share ∧ t.alloc.isolated = r.isolated ∧
      t.alloc.qTgt = (if s.sched.coord = some .coordinating then r.share else 0) ∧
      (s.reporting = false → t = { s with allow := t.allow, alloc := t.alloc }) ∧
      t.ctl = s.ctl ∧ t.acq = s.acq ∧ t.sup = s.sup ∧ t.maint = s.maint ∧ t.disp.table = s.disp.table

/-- The governing stage is the highest candidate; without one it is held or S_close; F and A_net follow (R68, R69,
R70, R73, R75, R76). -/
def Obligations.TheGoverningStageIsTheHighestCandidate : Prop :=
  ∀ (c : StationConfig) (x : Snapshot) (held : Allowance),
    let offers (z : Int) : Prop := x.river = some z ∨ ∃ r ∈ x.records, ∃ p, r.report = some p ∧
      (r.status = .fresh ∨ r.status = .aged) ∧ r.mismatch = false ∧ p.river = z ∧ z ≠ -32768
    let e := evaluate c x held
    ((∃ z, offers z) → ∃ z, e.stage = some z ∧ offers z ∧ (∀ y, offers y → y ≤ z)
      ∧ e.known = true ∧ e.blind = false) ∧
    ((¬ ∃ z, offers z) → e.blind = true ∧ e.known = held.known ∧ e.candidates = 0 ∧
      (held.known = true → held.stage.isSome = true → e.stage = held.stage) ∧
      (held.known = false → e.stage = some c.sClose)) ∧
    ∃ z a f, e.stage = some z ∧ e.allowance = some a ∧ a = allowanceAt c z ∧ e.fixed = some f ∧
      f = x.eHand + (x.records.map contribution).sum ∧ e.net = some (if f < a then a - f else 0) ∧
      ∀ r : PeerRecord, contribution r = match r.report, r.status with
        | some p, .fresh => if r.mismatch then p.cav + p.eHand else p.eHand
        | some p, .aged => if r.mismatch then p.cav + p.eHand else p.eHand
        | some p, .lost => p.cav + p.eHand
        | _, _ => 0

/-- The river allowance is A_full, read at most as 60000, up to S_free, 0 from S_close, and the floored line between (R71,
R72). -/
def Obligations.TheAllowanceFallsFromTheFreeToTheClosureStage : Prop :=
  (∀ (strap : Nat) (img : List Byte), validate strap img = none →
    (configOf img).sFree < (configOf img).sClose ∧ -32768 ≤ (configOf img).sFree
      ∧ (configOf img).sClose ≤ 32767) ∧
  ∀ (c : StationConfig) (z : Int), c.sFree < c.sClose → -32768 ≤ c.sFree → c.sClose ≤ 32767 →
    let full := min c.aFull 60000
    (z ≤ c.sFree → allowanceAt c z = full) ∧
    (c.sClose ≤ z → allowanceAt c z = 0) ∧
    (c.sFree < z → z < c.sClose →
      ((c.sClose - c.sFree) * (allowanceAt c z : Int) ≤ full * (c.sClose - z) ∧
      (full : Int) * (c.sClose - z) < (c.sClose - c.sFree) * ((allowanceAt c z : Int) + 1)) ∧
      (full : Int) * (c.sClose - z) < 60000 * 65535 ∧ (60000 * 65535 : Int) < 2 ^ 32 ∧
      (0 < full → allowanceAt c z ≤ full - 1) ∧
      (full < c.sClose - c.sFree → z = c.sClose - 1 → allowanceAt c z = 0)) ∧
    allowanceAt c z ≤ full ∧
    (allowanceAt c z : Int) - allowanceAt c (z + 1) ≤
      ((full : Int) + (c.sClose - c.sFree) - 1) / (c.sClose - c.sFree) ∧
    allowanceAt c (z + 1) ≤ allowanceAt c z

/-- Urgency by the polder level, capacity of the AUTO channels, demand rounded up, the members of the allocation, and the share
from the own grant among them (R83, R84, R85, R86, R87, R92, R93, R94). -/
def Obligations.UrgencyCapacityAndDemandOfASnapshot : Prop :=
  ∀ (c : StationConfig) (x : Snapshot) (e : Allowance), c.target < c.alarm →
    let r := allocate c x e
    (x.degraded = true → r.urgency = 500) ∧
    (∀ l, x.degraded = false → x.level = some l →
      (l ≤ c.target → r.urgency = 0) ∧ (c.alarm ≤ l → r.urgency = 1000) ∧
      (c.target < l → l < c.alarm → r.urgency ≤ 999 ∧
        (r.urgency : Int) * (c.alarm - c.target) ≤ (l - c.target) * 1000 ∧
        (l - c.target) * 1000 < ((r.urgency : Int) + 1) * (c.alarm - c.target))) ∧
    r.cav = (if x.lockout = true ∨ x.coord = some .leaving then 0 else sumChans fun k =>
      let y := quadGet x.chans k
      if y.fitted = true ∧ y.mode = some .auto ∧ (y.state = some .idle ∨ y.state = some .notice ∨
        y.state = some .starting ∨ y.state = some .running) then y.qmax else 0) ∧
    (r.cav * r.urgency ≤ 1000 * r.demand ∧ 1000 * r.demand < r.cav * r.urgency + 1000) ∧
    (r.urgency = 0 ∨ r.cav = 0 → r.demand = 0) ∧ (r.urgency = 1000 → r.demand = r.cav) ∧
    (0 < r.urgency → 0 < r.cav → 1 ≤ r.demand) ∧ r.demand ≤ r.cav ∧ r.share ≤ r.demand ∧
    (∀ z, e.stage = some z → c.sClose ≤ z → r.share = 0) ∧
    (r.isolated = true ↔ x.port ≠ .active ∨ ∃ y ∈ x.records, y.status = .lost) ∧
    let ms := members c.station r.urgency r.demand x.records
    ms.Pairwise (fun a b => a.station < b.station) ∧
    (∀ m, m ∈ ms ↔
      (m = ⟨c.station, r.urgency, r.demand⟩ ∧ 0 < r.demand ∧ 1 ≤ c.station ∧ c.station ≤ x.records.length) ∨
      (m.station ≠ c.station ∧ 1 ≤ m.station ∧ ∃ y p, x.records[m.station - 1]? = some y ∧ y.report = some p ∧
        (y.status = .fresh ∨ y.status = .aged) ∧ y.mismatch = false ∧ 0 < p.demand ∧
        m.urgency = p.urgency ∧ m.demand = p.demand)) ∧
    ∀ z net, e.stage = some z → z < c.sClose → e.net = some net → 1 ≤ c.station → c.station ≤ x.records.length →
      ∃ g : Nat, (0 < r.demand → ∃ y ∈ grants net ms, y.member.station = c.station ∧ y.grant = g) ∧
        (r.demand = 0 → g = 0) ∧
        r.share = if r.isolated then max g (min c.qAssured r.demand) else g

/-- Grants: every demand when it fits; otherwise proportional, capped, and the remainder by urgency to the last unit
(R88, R89, R90, R91). -/
def Obligations.TheGrantsUseTheNetAllowanceToTheLastUnit : Prop :=
  ∀ (net : Nat) (ms : List Member),
    let g := grants net ms
    (g.map (·.member)).Perm ms ∧ (∀ x ∈ g, x.grant ≤ x.member.demand) ∧
    (demandSum ms ≤ net → ∀ x ∈ g, x.grant = x.member.demand) ∧
    (net < demandSum ms → grantSum g = net ∧
      (∀ x ∈ g, 0 < weightSum ms →
        min (net * (x.member.demand * x.member.urgency) / weightSum ms) x.member.demand ≤ x.grant) ∧
      ∀ x ∈ g, ∀ y ∈ g,
        (y.member.urgency < x.member.urgency ∨
          (y.member.urgency = x.member.urgency ∧ x.member.station < y.member.station)) →
        (if weightSum ms = 0 then 0
          else min (net * (y.member.demand * y.member.urgency) / weightSum ms) y.member.demand) < y.grant →
        x.grant = x.member.demand)

/-- Full-speed discharge by head, minimum discharge and discharge at a speed reference (R100). The first part says the figures of
an accepted configuration, the second those of a discharge table formed at a published head, the third the arithmetic. -/
def Obligations.DischargeFallsFromTheRatedToTheShutOffHead : Prop :=
  (∀ (img : List Byte) (k : Chan), (quadGet (configOf img).pumps k).fitted = true →
    let p := quadGet (configOf img).pumps k
    p.hr < p.hsh ∧ p.hsh ≤ 65535 ∧ p.qr ≤ 4000 ∧ 100 ≤ p.nmin ∧ p.nmin ≤ 1022) ∧
  (∀ (s : State) (h : Nat) (k : Chan), s.acq.pub.head = some h → s.fitted k = true →
    let t := formTable s
    t.disp.table.bind (quadGet · k) = some ⟨t.qmax k, t.qmin k⟩ ∧ t.qmax k = fullDischarge (s.pump k) h ∧
    1022 * t.qmin k ≤ t.qmax k * (s.pump k).nmin ∧ t.qmax k * (s.pump k).nmin < 1022 * (t.qmin k + 1)) ∧
  ∀ (p : PumpBlock) (h n : Nat), p.hr < p.hsh → p.hsh ≤ 65535 → p.qr ≤ 4000 → 100 ≤ p.nmin → p.nmin ≤ 1022 →
    n ≤ 1022 →
    let q := fullDischarge p h
    (h ≤ p.hr → q = p.qr) ∧ (p.hsh ≤ h → q = 0) ∧
    (p.hr < h → h < p.hsh →
      (p.hsh - p.hr) * q ≤ p.qr * (p.hsh - h) ∧ p.qr * (p.hsh - h) < (p.hsh - p.hr) * (q + 1) ∧
      p.qr * (p.hsh - h) < 2 ^ 32 ∧ (0 < p.qr → q ≤ p.qr - 1)) ∧
    (1022 * atSpeed q n ≤ q * n ∧ q * n < 1022 * (atSpeed q n + 1)) ∧ q * n ≤ 4000 * 1022 ∧
    atSpeed q 1022 = q ∧ atSpeed q 0 = 0 ∧ q ≤ p.qr ∧ atSpeed q n ≤ p.qr ∧
    (1022 * atSpeed q p.nmin ≤ q * p.nmin ∧ q * p.nmin < 1022 * (atSpeed q p.nmin + 1)) ∧ atSpeed q p.nmin ≤ p.qr

/-- A completion with Q_tgt 0 stops every running channel and withdraws the own notice (R106, R107, R111, R117,
R128, R146, R149). -/
def Obligations.AZeroTargetStopsEveryPump : Prop :=
  ∀ (x : Snapshot) (s : State), s.alloc.snapshot = some x → s.reporting = true → NoneOffered s →
    ∃ t, exec .allocationCompletion s = .next t ∧ (t.alloc.qTgt = 0 →
      (∀ k, s.inR k = true → t.chan k = { s.chan k with state := some .stopping, window := none }) ∧
      (∀ k, s.inR k = false → s.isIn k .notice = false → t.chan k = s.chan k) ∧
      (∀ n, s.arb.notice = some n → t.arb.notice = none ∧ t.arb.holdOff = none ∧
        (s.isIn n.channel .notice = true → (t.chan n.channel).Off .idle)) ∧
      t.disp.crun = 0 ∧ t.disp.nt = s.disp.nt ∧ t.disp.rotation = s.disp.rotation ∧ FiguresFormed t)

/-- A short running set requests the front-most IDLE channel, and the three start conditions take or drop it (R104, R106,
R108, R120, R121, R122, R123, R145). -/
def Obligations.AStartIsRequestedWhenTheRunningSetIsShort : Prop :=
  ∀ (x : Snapshot) (s : State) (k : Chan) (before after : List Nat),
    s.alloc.snapshot = some x → s.sched.coord = some .coordinating → NoneOffered s →
    s.disp.eHand = eHandOf s → quadGet s.disp.hand k = false →
    s.disp.rotation = some (before ++ chanNum k :: after) → s.isIn k .idle = true →
    (∀ j, s.isIn j .idle = true → chanNum j ∉ before) →
    ∃ t, exec .allocationCompletion s = .next t ∧ (s.disp.crun < t.alloc.qTgt →
      let permitted := 0 < s.qmax k ∧ ((∃ j, s.inR j = true) ∨ s.qmin k ≤ t.alloc.qTgt) ∧
        (∀ j, s.starts j = false) ∧ s.disp.lockout = false
      let guard := ∀ r ∈ s.view.records, r.status ≠ .quit → ∀ p, r.pending = some p → p.yielded = true
      let power := (s.view.records.map fun r =>
          (match r.report, r.status with
            | some p, .fresh => p.runPower
            | some p, .aged => p.runPower
            | some p, .lost => p.instPower
            | _, _ => 0)
          + (match r.pending with
            | some p => if r.status = .quit ∨ p.yielded = true then 0 else p.power
            | none => 0)).sum + s.disp.runPower + (s.pump k).power ≤ min s.cfg.pFeed 60000
      (permitted → guard → power →
        let n : OwnNotice := ⟨k, t.alloc.urgency, (s.pump k).power, s.arb.counter, .queued⟩
        let p : StartPayload := ⟨chanNum k, t.alloc.urgency, (s.pump k).power, s.arb.counter⟩
        (t.chan k).Off .notice ∧ (∀ j, j ≠ k → t.chan j = s.chan j) ∧
        t.arb.counter = (s.arb.counter + 1) % 256 ∧ t.disp.rotation = s.disp.rotation ∧
        (s.port.state = .active → t.arb.notice = some n ∧ t.arb.holdOff = s.arb.holdOff ∧
          t.port = { s.port with queue := { s.port.queue with start := some p } }) ∧
        (s.port.state ≠ .active → t.arb.notice = some { n with phase := .holding } ∧
          t.arb.holdOff = some (s.cfg.tHold * 1000) ∧ t.port = s.port)) ∧
      (¬ (permitted ∧ guard ∧ power) → t.chans = s.chans ∧ t.arb = s.arb ∧ t.port = s.port))

/-- The front-most RUNNING channel is stopped when the rest can carry the target, and n_t is formed after the
decision (R104, R106, R109, R110, R111, R117). -/
def Obligations.APumpIsTakenOutWhenFewerCanCarryTheTarget : Prop :=
  ∀ (x : Snapshot) (s : State) (k : Chan) (before after : List Nat),
    s.alloc.snapshot = some x → s.reporting = true → NoneOffered s →
    s.disp.rotation = some (before ++ chanNum k :: after) → s.isIn k .running = true →
    (∀ j, s.isIn j .running = true → chanNum j ∉ before) →
    ∃ t, exec .allocationCompletion s = .next t ∧ (0 < t.alloc.qTgt → t.alloc.qTgt ≤ s.disp.crun →
      let several := ∃ i j, i ≠ j ∧ s.inR i = true ∧ s.inR j = true
      let out := (several ∧ t.alloc.qTgt ≤ (s.disp.crun - s.qmax k) * 9 / 10)
        ∨ (¬ several ∧ t.alloc.qTgt < s.qmin k)
      (out → t.chan k = { s.chan k with state := some .stopping, window := none }
        ∧ ∀ j, j ≠ k → t.chan j = s.chan j) ∧
      (¬ out → t.chans = s.chans) ∧ t.disp.rotation = s.disp.rotation ∧ FiguresFormed t ∧ SpeedTargetFormed s t)

/-- At the hold-off expiry the re-check starts the channel or sends it back to IDLE (R104, R111, R121, R129, R131, R146,
R147). -/
def Obligations.TheHoldOffEndsInAStartOrInIdle : Prop :=
  ∀ (n : OwnNotice) (s : State), s.arb.notice = some n → s.arb.holdOff.isSome = true →
    s.isIn n.channel .notice = true →
    let k := n.channel
    let guard := ∀ r ∈ s.view.records, r.status ≠ .quit → ∀ p, r.pending = some p → p.yielded = true
    let holds := guard ∧ feederSum s k ≤ min s.cfg.pFeed 60000 ∧ s.disp.crun < s.alloc.qTgt
    ∃ t, exec .holdOffExpiry s = .next t ∧ t.arb.notice = none ∧ t.arb.holdOff = none ∧
      t.arb.counter = s.arb.counter ∧ (∀ j, j ≠ k → t.chan j = s.chan j) ∧ FiguresFormed t ∧
      t.ctl = s.ctl ∧ t.acq = s.acq ∧ t.sup = s.sup ∧ t.allow = s.allow ∧ t.maint = s.maint ∧
      (holds → (t.chan k).state = some .starting ∧ (t.chan k).run = true ∧
        (t.chan k).reference = (s.pump k).nmin ∧ (t.chan k).window = some (s.cfg.tStart * 1000) ∧
        t.disp.rotation = (s.disp.rotation.map fun l => l.filter (· != chanNum k) ++ [chanNum k]) ∧
        SpeedTargetFormed s t) ∧
      (¬ holds → (t.chan k).Off .idle ∧ t.disp.rotation = s.disp.rotation)

/-- A slew expiry moves RUNNING references toward n_t, STOPPING ones toward nmin, and rests those that reach it; in
LEAVING the end of a stop is an occasion of the QUIT test (R46, R53, R55, R56, R112, R113, R144, R150). -/
def Obligations.TheSlewMovesReferencesByAtMostOneStep : Prop :=
  ∀ s : State, s.disp.slewTimer.isSome = true → NoneOffered s →
    ∃ t, exec .slewTimerExpiry s = .next t ∧ FiguresFormed t ∧ QuitTested s t ∧ t.disp.rotation = s.disp.rotation ∧
      t.arb.counter = s.arb.counter ∧ t.ctl = s.ctl ∧ t.acq = s.acq ∧ t.sup = s.sup ∧ t.allow = s.allow ∧ t.maint = s.maint ∧ ∀ k,
      let c := s.chan k
      let d := t.chan k
      (∀ target, c.state = some .running → s.disp.nt = some target →
        d = { c with reference := d.reference } ∧
        (c.reference ≤ target → d.reference = min (c.reference + s.cfg.slewStep) target) ∧
        (target < c.reference → d.reference = max (c.reference - s.cfg.slewStep) target)) ∧
      (c.state = some .starting → d = { c with reference := (s.pump k).nmin }) ∧
      (c.state = some .stopping → c.reference ≤ (s.pump k).nmin + s.cfg.slewStep →
        (s.pump k).nmin ≤ c.reference → Rested s t k) ∧
      (c.state = some .stopping → (s.pump k).nmin + s.cfg.slewStep < c.reference →
        d = { c with reference := c.reference - s.cfg.slewStep }) ∧
      (c.state ≠ some .running → c.state ≠ some .starting → c.state ≠ some .stopping → d = c)

/-- The start window ends in RUNNING or in FAULT with NO_START; the rest ends in IDLE; in LEAVING both are occasions of the QUIT
test (R46, R51, R53, R55, R56, R111, R144, R148, R151, R161, R162, R163). -/
def Obligations.TheStartWindowAndTheRestEnd : Prop :=
  (∀ (k : Chan) (s : State), s.isIn k .starting = true → (s.chan k).window.isSome = true → NoneOffered s →
      ∃ t, exec (.startWindowExpiry k) s = .next t ∧ (∀ j, j ≠ k → t.chan j = s.chan j) ∧ FiguresFormed t ∧
        QuitTested s t ∧ SpeedTargetFormed s t ∧
        t.disp.rotation = s.disp.rotation ∧ t.ctl = s.ctl ∧ t.acq = s.acq ∧ t.allow = s.allow ∧ t.maint = s.maint ∧
        (∀ i, s.current k = some i → i < (s.pump k).iul →
          (t.chan k).Off .fault ∧ (t.chan k).rest = none ∧ quadGet t.sup.watch k = ⟨0, 0, 0, some .noStart⟩ ∧
          (s.reporting = true → t.sched.coord = s.sched.coord → Prompted s t)) ∧
        ((∀ i, s.current k = some i → (s.pump k).iul ≤ i) →
          t.chan k = { s.chan k with state := some .running, window := none } ∧ t.sup = s.sup)) ∧
    ∀ (k : Chan) (s : State), s.isIn k .resting = true → (s.chan k).rest.isSome = true →
      ∃ t, exec (.restTimerExpiry k) s = .next t ∧ (t.chan k).Off .idle ∧ (t.chan k).rest = none ∧
        (∀ j, j ≠ k → t.chan j = s.chan j) ∧ FiguresFormed t ∧ QuitTested s t ∧ t.disp.rotation = s.disp.rotation ∧
        t.ctl = s.ctl ∧ t.acq = s.acq ∧ t.sup = s.sup ∧ t.allow = s.allow ∧ t.maint = s.maint

/-- Characters fill the line buffer; CR completes the line: executed, answered ERR SYNTAX, held, or ignored when
blank; and which words spell which request (R184, R185, R186, R187, R188). A low stop bit of CR or LF: log entry 20; a blank
line with the bad-line mark is left open (log entry 12). -/
def Obligations.CharactersFillTheLineUntilTheReturn : Prop :=
  (wordsOf [] = [] ∧ (∀ w, w ≠ [] → 0x20#8 ∉ w → wordsOf w = [w]) ∧
    ∀ a b, wordsOf (a ++ 0x20#8 :: b) = wordsOf a ++ wordsOf b) ∧
  (∀ ws r, readRequest ws = some r ↔ Spells ws r) ∧
  ∀ (c : Byte) (low : Bool) (s : State),
    let m := s.maint
    let bad := m.badLine || low
    let blank := ∀ x ∈ m.buffer, x = 0x20#8
    let spelt := if bad then none else readRequest (wordsOf m.buffer)
    let cleared : Maintenance := { m with buffer := [], badLine := false }
    (s.portOpen = true → m.held = none →
      (c ≠ 0x0D#8 → c ≠ 0x0A#8 → low = false → m.buffer.length < 64 →
        exec (.characterReceived c low) s = .next { s with maint := { m with buffer := m.buffer ++ [c] } }) ∧
      (c ≠ 0x0D#8 → c ≠ 0x0A#8 → low = false → 64 ≤ m.buffer.length →
        exec (.characterReceived c low) s = .next { s with maint := { m with badLine := true } }) ∧
      (c ≠ 0x0D#8 → low = true →
        exec (.characterReceived c low) s = .next { s with maint := { m with badLine := true } }) ∧
      (c = 0x0A#8 → low = false → exec (.characterReceived c low) s = .next s) ∧
      (c = 0x0D#8 → blank → bad = false →
        exec (.characterReceived c low) s = .next { s with maint := cleared }) ∧
      (c = 0x0D#8 → ¬ blank → m.response = none → spelt = none →
        exec (.characterReceived c low) s =
          .next { s with maint := { cleared with response := some (.err .errSyntax none) } }) ∧
      (∀ r, c = 0x0D#8 → ¬ blank → m.response = none → spelt = some r →
        exec (.characterReceived c low) s = .next (execute { s with maint := cleared } r)) ∧
      (c = 0x0D#8 → ¬ blank → m.response.isSome = true →
        exec (.characterReceived c low) s = .next { s with maint := { cleared with
          held := some (match spelt with
            | some r => .request r
            | none => .syntaxError) } })) ∧
    (s.portOpen = false ∨ m.held.isSome = true → exec (.characterReceived c low) s = .next s)

/-- A request that arrives during a response is held and executed at its end (R184, R185). A request row stands for
its whole line (log entry 9), and a RESPONSE_END with no response is no event (log entry 4). -/
def Obligations.ALineThatArrivesDuringAResponseIsHeldToItsEnd : Prop :=
  ∀ (s : State) (n k o : Nat) (l : List Byte),
    let m := s.maint
    (∀ x ∈ [(Instr.status, Request.status), (.view n, .view n), (.pump k, .pump k), (.line, .line), (.cause, .cause),
        (.clearFaults, .clearFaults), (.clearLine, .clearLine), (.leave, .leave), (.rejoin, .rejoin),
        (.load o l, .load o l), (.loadEnd, .loadEnd)],
      (s.portOpen = true → m.held = none → m.response.isSome = true →
        exec x.1 s = .next { s with maint := { m with held := some (.request x.2) } }) ∧
      (s.portOpen = true → m.held = none → m.response = none → exec x.1 s = .next (execute s x.2)) ∧
      (s.portOpen = false ∨ m.held.isSome = true → exec x.1 s = .next s)) ∧
    (m.response.isSome = true → m.held = none →
      exec .responseEnd s = .next { s with maint := { m with response := none } }) ∧
    (m.response.isSome = true → m.held = some .syntaxError →
      exec .responseEnd s = .next { s with maint := { m with
        response := some (.err .errSyntax none), held := none } }) ∧
    (∀ r, m.response.isSome = true → m.held = some (.request r) →
      exec .responseEnd s = .next (execute { s with maint := { m with response := none, held := none } } r)) ∧
    (m.response = none → exec .responseEnd s = .next s)

/-- STATUS, VIEW, PUMP, LINE and CAUSE answer from the state and change nothing; CLEAR LINE clears the counters; and when each
alarm condition holds (R33, R101, R104, R166, R167, R186, R187). FIT before an acceptance: log entry 18; POS counted
from 1: log entry 40. -/
def Obligations.ReadRequestsAnswerFromTheStateAlone : Prop :=
  (∀ s : State,
    let x := alarmCauses s
    (.startup ∈ x ↔ s.sched.coord = none ∨ s.sched.coord = some .joining) ∧
    (.halted ∈ x ↔ s.ctl.step = .halted ∨ s.ctl.step = .configWait) ∧
    (.fault ∈ x ↔ ∃ k, s.fitted k = true ∧ s.isIn k .fault = true) ∧
    (.selector ∈ x ↔ ∃ k, s.fitted k = true ∧ (s.chan k).selector = true) ∧
    (.level ∈ x ↔ s.acq.pub.polder.state ≠ .good ∨ s.acq.pub.sump.state ≠ .good ∨ s.acq.pub.river.state ≠ .good) ∧
    (.current ∈ x ↔ ∃ k, s.fitted k = true ∧ (quadGet s.acq.pub.currents k).state = .lost) ∧
    (.port ∈ x ↔ s.sched.coord = some .coordinating ∧ s.port.state ≠ .active) ∧
    (.mismatch ∈ x ↔ ∃ r ∈ s.view.records, r.mismatch = true ∧
      (r.status = .fresh ∨ r.status = .aged ∨ r.status = .lost)) ∧
    (.blind ∈ x ↔ s.allow.blind = true) ∧
    (alarmOutput s = true ↔ s.ctl.resetHeld = false ∧ x ≠ [])) ∧
  ∀ s : State, s.portOpen = true → s.maint.held = none → s.maint.response = none →
    let answered (r : Response) : State := { s with maint := { s.maint with response := some r } }
    (∃ r, exec .status s = .next (answered (.status r)) ∧
      (∀ x, s.sched.coord = some x → r.state = .coord x) ∧ (s.sched.coord = none → r.state = .step s.ctl.step) ∧
      r.clock = s.ctl.clock ∧ r.port = s.port.state ∧ r.reason = s.ctl.reason ∧
      r.causes = alarmCauses s ∧ (r.alarm = true ↔ r.causes ≠ []) ∧
      r.stage = s.allow.stage ∧ r.blind = s.allow.blind ∧ r.cand = s.allow.candidates ∧ r.a = s.allow.allowance ∧
      r.f = s.allow.fixed ∧ r.net = s.allow.net ∧ r.urgency = s.alloc.urgency ∧ r.cav = s.alloc.cav ∧
      r.demand = s.alloc.demand ∧ r.share = s.alloc.share ∧ r.qTgt = s.alloc.qTgt ∧
      r.isolated = s.alloc.isolated ∧ r.nt = s.disp.nt ∧ r.crun = s.disp.crun ∧ r.dry = s.disp.lockout ∧
      r.flags = ⟨s.sched.restart, s.acq.pub.degraded, s.alloc.isolated, s.disp.lockout,
        s.sched.coord == some .leaving, s.allow.blind⟩ ∧
      r.polder = s.acq.pub.polder ∧ r.sump = s.acq.pub.sump ∧ r.river = s.acq.pub.river) ∧
    (∀ n, 1 ≤ n → n ≤ 24 → exec (.view n) s = .next (answered (.view n (s.record n)))) ∧
    (∀ n, n = 0 ∨ 24 < n → exec (.view n) s = .next (answered (.err .errRange none))) ∧
    (∀ k, ∃ r, exec (.pump (chanNum k)) s = .next (answered (.pump r)) ∧ r.k = chanNum k ∧
      (s.ctl.config = none → r.fit = none) ∧ (s.ctl.config.isSome = true → r.fit = some (s.fitted k)) ∧
      r.current = quadGet s.acq.pub.currents k ∧ (s.fitted k = false → r.figures = none) ∧
      (s.fitted k = true → ∃ f, r.figures = some f ∧ f.mode = (s.chan k).mode ∧ f.selector = (s.chan k).selector ∧
        f.state = (s.chan k).state ∧ f.fault = (quadGet s.sup.watch k).latch ∧ f.reference = (s.chan k).reference ∧
        f.oc = (quadGet s.sup.watch k).overcurrent ∧ f.sl = (quadGet s.sup.watch k).startLimit ∧
        f.ul = (quadGet s.sup.watch k).underload ∧
        (∀ d, s.disp.table.bind (quadGet · k) = some d → f.qmax = some d.qmax ∧ f.qmin = some d.qmin) ∧
        (s.disp.table = none → f.qmax = none ∧ f.qmin = none) ∧
        ∀ x before after, s.disp.rotation = some (before ++ x :: after) → x = chanNum k → x ∉ before →
          f.position = some (before.length + 1))) ∧
    (∀ k, k = 0 ∨ 4 < k → exec (.pump k) s = .next (answered (.err .errRange none))) ∧
    exec .line s = .next (answered (.line {
      good := s.port.good, bad := s.port.bad, losses := s.port.losses, lineFaults := s.port.lineFaults
      firstError := s.port.firstError
      selfTest := match s.port.selfTest with
        | some r => .record r
        | none => if s.port.state = .off ∨ s.port.state = .selftest then .notYet else .pass })) ∧
    exec .cause s = .next (answered (.cause ⟨s.ctl.cause, s.ctl.warmCount, s.ctl.reason⟩)) ∧
    exec .clearLine s = .next { answered .ok with port := { s.port with
      good := 0, bad := 0, losses := 0, lineFaults := 0, firstError := none } }

/-- LEAVE leads to LEAVING and its QUIT, REJOIN from LEFT back to JOINING; elsewhere both answer ERR STATE (R28,
R38, R46, R48, R51, R53, R54, R55, R56, R57, R79, R95, R102, R103, R119, R153, R187). The prompt comes before the QUIT test (R55;
log entry 5). A channel that REJOIN places in LOCAL without a working current counts as running by hand (log entry 8). The
channels are placed at the entry to JOINING (log entry 39). -/
def Obligations.LeaveAndRejoinTakeTheStationOutAndBack : Prop :=
  ∀ s : State, s.portOpen = true → s.maint.held = none → s.maint.response = none →
    let answered (r : Response) : State := { s with maint := { s.maint with response := some r } }
    let u : State := { s with
      sched := { s.sched with coord := some .leaving }, alloc := { s.alloc with qTgt := 0 } }
    let idle := (∀ k, s.turning k = false) ∧ s.disp.eHand = 0
    (s.sched.coord = some .coordinating → ∃ t, exec .leave s = .next t ∧
      t.maint = { s.maint with response := some .ok } ∧
      t.alloc = { s.alloc with qTgt := 0, timer := t.alloc.timer } ∧ t.chans = s.chans ∧ t.disp = s.disp ∧
      t.acq = s.acq ∧ t.allow = s.allow ∧ t.sup = s.sup ∧ t.ctl = s.ctl ∧
      (¬ idle → t.sched.coord = some .leaving ∧ t.arb = s.arb ∧ t.alloc.timer = s.alloc.timer ∧
        (s.sched.spacingTimer.isSome = true ∨ StageOnLine s →
          t.sched = { s.sched with coord := some .leaving, prompt := true } ∧ t.port = s.port ∧ t.view = s.view) ∧
        (s.sched.spacingTimer = none → ¬ StageOnLine s → ∃ p, Composed u t p)) ∧
      (idle → s.sched.quitOffered = false →
        (s.port.state = .active → t.sched.coord = some .leaving ∧ t.sched.quitOffered = true ∧
          t.port.queue.start = none ∧ t.port.queue.quit = some ⟨1, (t.sched.counter + 255) % 256⟩ ∧
          ∀ n p, s.arb.notice = some n → s.port.queue.start = some p → p.number = n.number →
            t.arb.notice = some { n with phase := .holding } ∧ t.arb.holdOff = some (s.cfg.tHold * 1000)) ∧
        (s.port.state ≠ .active → t.sched.coord = some .left ∧ t.sched.reportTimer = none ∧
          t.sched.spacingTimer = none ∧ t.sched.prompt = false ∧ t.sched.quitOffered = false ∧
          t.alloc.timer = none ∧ t.port.queue.stage = none))) ∧
    (s.sched.coord ≠ some .coordinating → exec .leave s = .next (answered (.err .errState none))) ∧
    (s.sched.coord = some .left → ∃ t, exec .rejoin s = .next t ∧ Joined s t ∧ t.sched.riverSide = none ∧
      t.maint = { s.maint with response := some .ok } ∧ t.ctl = s.ctl ∧ t.view = s.view ∧
      (s.port.state = .active → t.port = { s.port with
        state := .listen, queue := ⟨none, none, none⟩, tx := none }) ∧
      (s.port.state ≠ .active → t.port.state = s.port.state)) ∧
    (s.sched.coord ≠ some .left → exec .rejoin s = .next (answered (.err .errState none)))

/-- LOAD writes bytes of the image in CONFIG_WAIT; LOAD END judges the image and accepts it or names the reason
(R179, R181, R185, R188). -/
def Obligations.LoadWritesTheImageAndLoadEndJudgesIt : Prop :=
  ∀ s : State, s.portOpen = true → s.maint.held = none → s.maint.response = none →
    let answered (r : Response) : State := { s with maint := { s.maint with response := some r } }
    (∀ (o : Nat) (l : List Byte), 1 ≤ l.length → l.length ≤ 16 →
      (s.ctl.step ≠ .configWait → exec (.load o l) s = .next (answered (.err .errState none))) ∧
      (s.ctl.step = .configWait → 128 < o + l.length →
        exec (.load o l) s = .next (answered (.err .errRange none))) ∧
      (∀ img, s.ctl.step = .configWait → s.ctl.image = some img → img.length = 128 → o + l.length ≤ 128 →
        ∃ new, exec (.load o l) s = .next { answered .ok with ctl := { s.ctl with image := some new } } ∧
          new.length = 128 ∧
          ∀ i, new[i]? = if o ≤ i ∧ i < o + l.length then l[i - o]? else img[i]?)) ∧
    (∀ (o : Nat) (l : List Byte), l.length = 0 ∨ 16 < l.length →
      exec (.load o l) s = .next (answered (.err .errSyntax none))) ∧
    (s.ctl.step ≠ .configWait → exec .loadEnd s = .next (answered (.err .errState none))) ∧
    ∀ img, s.ctl.step = .configWait → s.ctl.image = some img → s.view.records.length = 24 →
      (∀ r, validate (s.ctl.station.getD 0) img = some r →
        exec .loadEnd s = .next { answered (.err .errState (some r)) with
          ctl := { s.ctl with reason := some r } }) ∧
      (validate (s.ctl.station.getD 0) img = none → ∃ t, exec .loadEnd s = .next t ∧
        t.maint = { s.maint with response := some .ok } ∧ Accepted s t (configOf img))

/-- The six invariants hold at reset (R41, R47, R58, R99, R105, R119, R137, R169). -/
def Obligations.TheInvariantsHoldAtReset : Prop :=
  StartSequence State.reset ∧ ChannelsConsistent State.reset ∧ OneStartAtATime State.reset
    ∧ ViewSound State.reset ∧ RotationSound State.reset ∧ SpeedsSound State.reset

/-- Every step keeps start step, port state, coordination state, timers and queue consistent with one another (R27,
R28, R36, R47, R48, R50, R56, R80, R95, R137, R169, R182). -/
def Obligations.EveryStepKeepsTheStartSequence : Prop :=
  ∀ s t : State, StartSequence s → step s = .next t → StartSequence t

/-- Every step keeps run output, reference, timers, mode and flag of each channel consistent with its state (R137, R139,
R140, R144, R147, R148). -/
def Obligations.EveryStepKeepsTheChannelsConsistent : Prop :=
  ∀ s t : State, StartSequence s → ChannelsConsistent s → step s = .next t → ChannelsConsistent t

/-- Every step keeps at most one channel in NOTICE or STARTING, and the own notice with the channel in NOTICE (R119,
R120, R128, R139, R145, R146). -/
def Obligations.EveryStepStartsOnePumpAtATime : Prop :=
  ∀ s t : State, StartSequence s → ChannelsConsistent s → OneStartAtATime s → step s = .next t → OneStartAtATime t

/-- Every step keeps the view sound: 24 records, one SELF entry, stored reports in range, status by age (R58, R59,
R60, R61, R62, R63). -/
def Obligations.EveryStepKeepsThePeerViewSound : Prop :=
  ∀ s t : State, StartSequence s → ViewSound s → step s = .next t → ViewSound t

/-- Every step keeps the rotation list: every fitted channel exactly once and nothing else (R104, R105). -/
def Obligations.EveryStepKeepsTheRotationListComplete : Prop :=
  ∀ s t : State, StartSequence s → RotationSound s → step s = .next t → RotationSound t

/-- Every step keeps the references of turning channels from nmin to 1022 and n_t within every RUNNING channel's
range (R111, R112, R140, R147, R180). -/
def Obligations.EveryStepKeepsTheSpeedReferencesInRange : Prop :=
  ∀ s t : State, StartSequence s → ChannelsConsistent s → SpeedsSound s → step s = .next t → SpeedsSound t
end

