-- ==== Sys2Proof/Laws/Crc.lean ====
section
/-! SUPPORT. A form of the CRC-16 that the kernel evaluates quickly: the register is brought to a numeral after each byte.
It is proved equal to the one of the definition. -/

namespace Sys2Proof.Machine

/-- A function applied to a number that is evaluated first. -/
def forceNat {α : Type} (f : Nat → α) : Nat → α
  | 0 => f 0
  | n + 1 => f (n + 1)

theorem forceNat_eq {α : Type} (f : Nat → α) (n : Nat) : forceNat f n = f n := by cases n <;> rfl

/-- The CRC register carried through a list of bytes, as a numeral. -/
def crcGo : List Byte → Word16 → Word16
  | [], c => c
  | b :: r, c => forceNat (fun n => crcGo r (BitVec.ofNat 16 n)) (crcByte c b).toNat

/-- The CRC-16 by numerals. -/
theorem crc16_go (l : List Byte) : crc16 l = crcGo l 0xFFFF#16 := by
  have key : ∀ (l : List Byte) (c : Word16), l.foldl crcByte c = crcGo l c := by
    intro l
    induction l with
    | nil => intro c; rfl
    | cons b r ih => intro c; simp [crcGo, forceNat_eq, ih]
  exact key l _

/-- The first failing check with the CRC by numerals. -/
theorem validate_go (strap : Nat) (img : List Byte) :
    validate strap img = firstFailure
      [ ((crcGo (img.take 126) 0xFFFF#16).toNat == u16At img 126, .imageCrc),
        (u8At img 0 == 1, .version),
        (1 ≤ strap && strap ≤ Config.stations && strap == u8At img 1, .station),
        (s16At img 6 < s16At img 8, .stages),
        (s16At img 14 < s16At img 16, .levels),
        (s16At img 27 < s16At img 29 && s16At img 31 < s16At img 33 && s16At img 35 < s16At img 37, .scaling),
        (anyChan (blockFitted img), .noPump) ] := by
  rw [validate, crc16_go]

end Sys2Proof.Machine
end

