-- ==== Sys2Proof/Laws/State.lean ====
section
/-! SUPPORT. One lemma per block and per update of the state, and per reader of the state and update that does not touch what it
reads: all true by `rfl`, so that no proof unfolds a record update. -/

namespace Sys2Proof.Machine

/-! ## State.setCtl -/

@[simp] theorem State.setCtl_ctl (s : State) (x : Controller) : (s.setCtl x).ctl = x := rfl
@[simp] theorem State.setCtl_acq (s : State) (x : Controller) : (s.setCtl x).acq = s.acq := rfl
@[simp] theorem State.setCtl_port (s : State) (x : Controller) : (s.setCtl x).port = s.port := rfl
@[simp] theorem State.setCtl_sched (s : State) (x : Controller) : (s.setCtl x).sched = s.sched := rfl
@[simp] theorem State.setCtl_view (s : State) (x : Controller) : (s.setCtl x).view = s.view := rfl
@[simp] theorem State.setCtl_allow (s : State) (x : Controller) : (s.setCtl x).allow = s.allow := rfl
@[simp] theorem State.setCtl_alloc (s : State) (x : Controller) : (s.setCtl x).alloc = s.alloc := rfl
@[simp] theorem State.setCtl_disp (s : State) (x : Controller) : (s.setCtl x).disp = s.disp := rfl
@[simp] theorem State.setCtl_arb (s : State) (x : Controller) : (s.setCtl x).arb = s.arb := rfl
@[simp] theorem State.setCtl_chans (s : State) (x : Controller) : (s.setCtl x).chans = s.chans := rfl
@[simp] theorem State.setCtl_sup (s : State) (x : Controller) : (s.setCtl x).sup = s.sup := rfl
@[simp] theorem State.setCtl_maint (s : State) (x : Controller) : (s.setCtl x).maint = s.maint := rfl
@[simp] theorem State.setCtl_pending (s : State) (x : Controller) : (s.setCtl x).pending = s.pending := rfl
@[simp] theorem State.setCtl_chan (s : State) (x : Controller) (k : Chan) : (s.setCtl x).chan k = s.chan k := rfl
@[simp] theorem State.setCtl_chanState (s : State) (x : Controller) (k : Chan) : (s.setCtl x).chanState k = s.chanState k := rfl
@[simp] theorem State.setCtl_isIn (s : State) (x : Controller) (k : Chan) (y : ChanState) : (s.setCtl x).isIn k y = s.isIn k y := rfl
@[simp] theorem State.setCtl_inR (s : State) (x : Controller) (k : Chan) : (s.setCtl x).inR k = s.inR k := rfl
@[simp] theorem State.setCtl_turning (s : State) (x : Controller) (k : Chan) : (s.setCtl x).turning k = s.turning k := rfl
@[simp] theorem State.setCtl_record (s : State) (x : Controller) (n : Nat) : (s.setCtl x).record n = s.record n := rfl
@[simp] theorem State.setCtl_reporting (s : State) (x : Controller) : (s.setCtl x).reporting = s.reporting := rfl
@[simp] theorem State.setCtl_current (s : State) (x : Controller) (k : Chan) : (s.setCtl x).current k = s.current k := rfl

/-! ## State.setAcq -/

@[simp] theorem State.setAcq_ctl (s : State) (x : Acquisition) : (s.setAcq x).ctl = s.ctl := rfl
@[simp] theorem State.setAcq_acq (s : State) (x : Acquisition) : (s.setAcq x).acq = x := rfl
@[simp] theorem State.setAcq_port (s : State) (x : Acquisition) : (s.setAcq x).port = s.port := rfl
@[simp] theorem State.setAcq_sched (s : State) (x : Acquisition) : (s.setAcq x).sched = s.sched := rfl
@[simp] theorem State.setAcq_view (s : State) (x : Acquisition) : (s.setAcq x).view = s.view := rfl
@[simp] theorem State.setAcq_allow (s : State) (x : Acquisition) : (s.setAcq x).allow = s.allow := rfl
@[simp] theorem State.setAcq_alloc (s : State) (x : Acquisition) : (s.setAcq x).alloc = s.alloc := rfl
@[simp] theorem State.setAcq_disp (s : State) (x : Acquisition) : (s.setAcq x).disp = s.disp := rfl
@[simp] theorem State.setAcq_arb (s : State) (x : Acquisition) : (s.setAcq x).arb = s.arb := rfl
@[simp] theorem State.setAcq_chans (s : State) (x : Acquisition) : (s.setAcq x).chans = s.chans := rfl
@[simp] theorem State.setAcq_sup (s : State) (x : Acquisition) : (s.setAcq x).sup = s.sup := rfl
@[simp] theorem State.setAcq_maint (s : State) (x : Acquisition) : (s.setAcq x).maint = s.maint := rfl
@[simp] theorem State.setAcq_pending (s : State) (x : Acquisition) : (s.setAcq x).pending = s.pending := rfl
@[simp] theorem State.setAcq_cfg (s : State) (x : Acquisition) : (s.setAcq x).cfg = s.cfg := rfl
@[simp] theorem State.setAcq_own (s : State) (x : Acquisition) : (s.setAcq x).own = s.own := rfl
@[simp] theorem State.setAcq_pump (s : State) (x : Acquisition) (k : Chan) : (s.setAcq x).pump k = s.pump k := rfl
@[simp] theorem State.setAcq_fitted (s : State) (x : Acquisition) (k : Chan) : (s.setAcq x).fitted k = s.fitted k := rfl
@[simp] theorem State.setAcq_chan (s : State) (x : Acquisition) (k : Chan) : (s.setAcq x).chan k = s.chan k := rfl
@[simp] theorem State.setAcq_chanState (s : State) (x : Acquisition) (k : Chan) : (s.setAcq x).chanState k = s.chanState k := rfl
@[simp] theorem State.setAcq_isIn (s : State) (x : Acquisition) (k : Chan) (y : ChanState) : (s.setAcq x).isIn k y = s.isIn k y := rfl
@[simp] theorem State.setAcq_inR (s : State) (x : Acquisition) (k : Chan) : (s.setAcq x).inR k = s.inR k := rfl
@[simp] theorem State.setAcq_turning (s : State) (x : Acquisition) (k : Chan) : (s.setAcq x).turning k = s.turning k := rfl
@[simp] theorem State.setAcq_record (s : State) (x : Acquisition) (n : Nat) : (s.setAcq x).record n = s.record n := rfl
@[simp] theorem State.setAcq_reporting (s : State) (x : Acquisition) : (s.setAcq x).reporting = s.reporting := rfl
@[simp] theorem State.setAcq_qmax (s : State) (x : Acquisition) (k : Chan) : (s.setAcq x).qmax k = s.qmax k := rfl
@[simp] theorem State.setAcq_qmin (s : State) (x : Acquisition) (k : Chan) : (s.setAcq x).qmin k = s.qmin k := rfl

/-! ## State.setPort -/

@[simp] theorem State.setPort_ctl (s : State) (x : Port) : (s.setPort x).ctl = s.ctl := rfl
@[simp] theorem State.setPort_acq (s : State) (x : Port) : (s.setPort x).acq = s.acq := rfl
@[simp] theorem State.setPort_port (s : State) (x : Port) : (s.setPort x).port = x := rfl
@[simp] theorem State.setPort_sched (s : State) (x : Port) : (s.setPort x).sched = s.sched := rfl
@[simp] theorem State.setPort_view (s : State) (x : Port) : (s.setPort x).view = s.view := rfl
@[simp] theorem State.setPort_allow (s : State) (x : Port) : (s.setPort x).allow = s.allow := rfl
@[simp] theorem State.setPort_alloc (s : State) (x : Port) : (s.setPort x).alloc = s.alloc := rfl
@[simp] theorem State.setPort_disp (s : State) (x : Port) : (s.setPort x).disp = s.disp := rfl
@[simp] theorem State.setPort_arb (s : State) (x : Port) : (s.setPort x).arb = s.arb := rfl
@[simp] theorem State.setPort_chans (s : State) (x : Port) : (s.setPort x).chans = s.chans := rfl
@[simp] theorem State.setPort_sup (s : State) (x : Port) : (s.setPort x).sup = s.sup := rfl
@[simp] theorem State.setPort_maint (s : State) (x : Port) : (s.setPort x).maint = s.maint := rfl
@[simp] theorem State.setPort_pending (s : State) (x : Port) : (s.setPort x).pending = s.pending := rfl
@[simp] theorem State.setPort_cfg (s : State) (x : Port) : (s.setPort x).cfg = s.cfg := rfl
@[simp] theorem State.setPort_own (s : State) (x : Port) : (s.setPort x).own = s.own := rfl
@[simp] theorem State.setPort_pump (s : State) (x : Port) (k : Chan) : (s.setPort x).pump k = s.pump k := rfl
@[simp] theorem State.setPort_fitted (s : State) (x : Port) (k : Chan) : (s.setPort x).fitted k = s.fitted k := rfl
@[simp] theorem State.setPort_chan (s : State) (x : Port) (k : Chan) : (s.setPort x).chan k = s.chan k := rfl
@[simp] theorem State.setPort_chanState (s : State) (x : Port) (k : Chan) : (s.setPort x).chanState k = s.chanState k := rfl
@[simp] theorem State.setPort_isIn (s : State) (x : Port) (k : Chan) (y : ChanState) : (s.setPort x).isIn k y = s.isIn k y := rfl
@[simp] theorem State.setPort_inR (s : State) (x : Port) (k : Chan) : (s.setPort x).inR k = s.inR k := rfl
@[simp] theorem State.setPort_turning (s : State) (x : Port) (k : Chan) : (s.setPort x).turning k = s.turning k := rfl
@[simp] theorem State.setPort_record (s : State) (x : Port) (n : Nat) : (s.setPort x).record n = s.record n := rfl
@[simp] theorem State.setPort_reporting (s : State) (x : Port) : (s.setPort x).reporting = s.reporting := rfl
@[simp] theorem State.setPort_qmax (s : State) (x : Port) (k : Chan) : (s.setPort x).qmax k = s.qmax k := rfl
@[simp] theorem State.setPort_qmin (s : State) (x : Port) (k : Chan) : (s.setPort x).qmin k = s.qmin k := rfl
@[simp] theorem State.setPort_current (s : State) (x : Port) (k : Chan) : (s.setPort x).current k = s.current k := rfl

/-! ## State.setSched -/

@[simp] theorem State.setSched_ctl (s : State) (x : Scheduler) : (s.setSched x).ctl = s.ctl := rfl
@[simp] theorem State.setSched_acq (s : State) (x : Scheduler) : (s.setSched x).acq = s.acq := rfl
@[simp] theorem State.setSched_port (s : State) (x : Scheduler) : (s.setSched x).port = s.port := rfl
@[simp] theorem State.setSched_sched (s : State) (x : Scheduler) : (s.setSched x).sched = x := rfl
@[simp] theorem State.setSched_view (s : State) (x : Scheduler) : (s.setSched x).view = s.view := rfl
@[simp] theorem State.setSched_allow (s : State) (x : Scheduler) : (s.setSched x).allow = s.allow := rfl
@[simp] theorem State.setSched_alloc (s : State) (x : Scheduler) : (s.setSched x).alloc = s.alloc := rfl
@[simp] theorem State.setSched_disp (s : State) (x : Scheduler) : (s.setSched x).disp = s.disp := rfl
@[simp] theorem State.setSched_arb (s : State) (x : Scheduler) : (s.setSched x).arb = s.arb := rfl
@[simp] theorem State.setSched_chans (s : State) (x : Scheduler) : (s.setSched x).chans = s.chans := rfl
@[simp] theorem State.setSched_sup (s : State) (x : Scheduler) : (s.setSched x).sup = s.sup := rfl
@[simp] theorem State.setSched_maint (s : State) (x : Scheduler) : (s.setSched x).maint = s.maint := rfl
@[simp] theorem State.setSched_pending (s : State) (x : Scheduler) : (s.setSched x).pending = s.pending := rfl
@[simp] theorem State.setSched_cfg (s : State) (x : Scheduler) : (s.setSched x).cfg = s.cfg := rfl
@[simp] theorem State.setSched_own (s : State) (x : Scheduler) : (s.setSched x).own = s.own := rfl
@[simp] theorem State.setSched_pump (s : State) (x : Scheduler) (k : Chan) : (s.setSched x).pump k = s.pump k := rfl
@[simp] theorem State.setSched_fitted (s : State) (x : Scheduler) (k : Chan) : (s.setSched x).fitted k = s.fitted k := rfl
@[simp] theorem State.setSched_chan (s : State) (x : Scheduler) (k : Chan) : (s.setSched x).chan k = s.chan k := rfl
@[simp] theorem State.setSched_chanState (s : State) (x : Scheduler) (k : Chan) : (s.setSched x).chanState k = s.chanState k := rfl
@[simp] theorem State.setSched_isIn (s : State) (x : Scheduler) (k : Chan) (y : ChanState) : (s.setSched x).isIn k y = s.isIn k y := rfl
@[simp] theorem State.setSched_inR (s : State) (x : Scheduler) (k : Chan) : (s.setSched x).inR k = s.inR k := rfl
@[simp] theorem State.setSched_turning (s : State) (x : Scheduler) (k : Chan) : (s.setSched x).turning k = s.turning k := rfl
@[simp] theorem State.setSched_record (s : State) (x : Scheduler) (n : Nat) : (s.setSched x).record n = s.record n := rfl
@[simp] theorem State.setSched_qmax (s : State) (x : Scheduler) (k : Chan) : (s.setSched x).qmax k = s.qmax k := rfl
@[simp] theorem State.setSched_qmin (s : State) (x : Scheduler) (k : Chan) : (s.setSched x).qmin k = s.qmin k := rfl
@[simp] theorem State.setSched_current (s : State) (x : Scheduler) (k : Chan) : (s.setSched x).current k = s.current k := rfl

/-! ## State.setView -/

@[simp] theorem State.setView_ctl (s : State) (x : PeerView) : (s.setView x).ctl = s.ctl := rfl
@[simp] theorem State.setView_acq (s : State) (x : PeerView) : (s.setView x).acq = s.acq := rfl
@[simp] theorem State.setView_port (s : State) (x : PeerView) : (s.setView x).port = s.port := rfl
@[simp] theorem State.setView_sched (s : State) (x : PeerView) : (s.setView x).sched = s.sched := rfl
@[simp] theorem State.setView_view (s : State) (x : PeerView) : (s.setView x).view = x := rfl
@[simp] theorem State.setView_allow (s : State) (x : PeerView) : (s.setView x).allow = s.allow := rfl
@[simp] theorem State.setView_alloc (s : State) (x : PeerView) : (s.setView x).alloc = s.alloc := rfl
@[simp] theorem State.setView_disp (s : State) (x : PeerView) : (s.setView x).disp = s.disp := rfl
@[simp] theorem State.setView_arb (s : State) (x : PeerView) : (s.setView x).arb = s.arb := rfl
@[simp] theorem State.setView_chans (s : State) (x : PeerView) : (s.setView x).chans = s.chans := rfl
@[simp] theorem State.setView_sup (s : State) (x : PeerView) : (s.setView x).sup = s.sup := rfl
@[simp] theorem State.setView_maint (s : State) (x : PeerView) : (s.setView x).maint = s.maint := rfl
@[simp] theorem State.setView_pending (s : State) (x : PeerView) : (s.setView x).pending = s.pending := rfl
@[simp] theorem State.setView_cfg (s : State) (x : PeerView) : (s.setView x).cfg = s.cfg := rfl
@[simp] theorem State.setView_own (s : State) (x : PeerView) : (s.setView x).own = s.own := rfl
@[simp] theorem State.setView_pump (s : State) (x : PeerView) (k : Chan) : (s.setView x).pump k = s.pump k := rfl
@[simp] theorem State.setView_fitted (s : State) (x : PeerView) (k : Chan) : (s.setView x).fitted k = s.fitted k := rfl
@[simp] theorem State.setView_chan (s : State) (x : PeerView) (k : Chan) : (s.setView x).chan k = s.chan k := rfl
@[simp] theorem State.setView_chanState (s : State) (x : PeerView) (k : Chan) : (s.setView x).chanState k = s.chanState k := rfl
@[simp] theorem State.setView_isIn (s : State) (x : PeerView) (k : Chan) (y : ChanState) : (s.setView x).isIn k y = s.isIn k y := rfl
@[simp] theorem State.setView_inR (s : State) (x : PeerView) (k : Chan) : (s.setView x).inR k = s.inR k := rfl
@[simp] theorem State.setView_turning (s : State) (x : PeerView) (k : Chan) : (s.setView x).turning k = s.turning k := rfl
@[simp] theorem State.setView_reporting (s : State) (x : PeerView) : (s.setView x).reporting = s.reporting := rfl
@[simp] theorem State.setView_qmax (s : State) (x : PeerView) (k : Chan) : (s.setView x).qmax k = s.qmax k := rfl
@[simp] theorem State.setView_qmin (s : State) (x : PeerView) (k : Chan) : (s.setView x).qmin k = s.qmin k := rfl
@[simp] theorem State.setView_current (s : State) (x : PeerView) (k : Chan) : (s.setView x).current k = s.current k := rfl

/-! ## State.setAllow -/

@[simp] theorem State.setAllow_ctl (s : State) (x : Allowance) : (s.setAllow x).ctl = s.ctl := rfl
@[simp] theorem State.setAllow_acq (s : State) (x : Allowance) : (s.setAllow x).acq = s.acq := rfl
@[simp] theorem State.setAllow_port (s : State) (x : Allowance) : (s.setAllow x).port = s.port := rfl
@[simp] theorem State.setAllow_sched (s : State) (x : Allowance) : (s.setAllow x).sched = s.sched := rfl
@[simp] theorem State.setAllow_view (s : State) (x : Allowance) : (s.setAllow x).view = s.view := rfl
@[simp] theorem State.setAllow_allow (s : State) (x : Allowance) : (s.setAllow x).allow = x := rfl
@[simp] theorem State.setAllow_alloc (s : State) (x : Allowance) : (s.setAllow x).alloc = s.alloc := rfl
@[simp] theorem State.setAllow_disp (s : State) (x : Allowance) : (s.setAllow x).disp = s.disp := rfl
@[simp] theorem State.setAllow_arb (s : State) (x : Allowance) : (s.setAllow x).arb = s.arb := rfl
@[simp] theorem State.setAllow_chans (s : State) (x : Allowance) : (s.setAllow x).chans = s.chans := rfl
@[simp] theorem State.setAllow_sup (s : State) (x : Allowance) : (s.setAllow x).sup = s.sup := rfl
@[simp] theorem State.setAllow_maint (s : State) (x : Allowance) : (s.setAllow x).maint = s.maint := rfl
@[simp] theorem State.setAllow_pending (s : State) (x : Allowance) : (s.setAllow x).pending = s.pending := rfl
@[simp] theorem State.setAllow_cfg (s : State) (x : Allowance) : (s.setAllow x).cfg = s.cfg := rfl
@[simp] theorem State.setAllow_own (s : State) (x : Allowance) : (s.setAllow x).own = s.own := rfl
@[simp] theorem State.setAllow_pump (s : State) (x : Allowance) (k : Chan) : (s.setAllow x).pump k = s.pump k := rfl
@[simp] theorem State.setAllow_fitted (s : State) (x : Allowance) (k : Chan) : (s.setAllow x).fitted k = s.fitted k := rfl
@[simp] theorem State.setAllow_chan (s : State) (x : Allowance) (k : Chan) : (s.setAllow x).chan k = s.chan k := rfl
@[simp] theorem State.setAllow_chanState (s : State) (x : Allowance) (k : Chan) : (s.setAllow x).chanState k = s.chanState k := rfl
@[simp] theorem State.setAllow_isIn (s : State) (x : Allowance) (k : Chan) (y : ChanState) : (s.setAllow x).isIn k y = s.isIn k y := rfl
@[simp] theorem State.setAllow_inR (s : State) (x : Allowance) (k : Chan) : (s.setAllow x).inR k = s.inR k := rfl
@[simp] theorem State.setAllow_turning (s : State) (x : Allowance) (k : Chan) : (s.setAllow x).turning k = s.turning k := rfl
@[simp] theorem State.setAllow_record (s : State) (x : Allowance) (n : Nat) : (s.setAllow x).record n = s.record n := rfl
@[simp] theorem State.setAllow_reporting (s : State) (x : Allowance) : (s.setAllow x).reporting = s.reporting := rfl
@[simp] theorem State.setAllow_qmax (s : State) (x : Allowance) (k : Chan) : (s.setAllow x).qmax k = s.qmax k := rfl
@[simp] theorem State.setAllow_qmin (s : State) (x : Allowance) (k : Chan) : (s.setAllow x).qmin k = s.qmin k := rfl
@[simp] theorem State.setAllow_current (s : State) (x : Allowance) (k : Chan) : (s.setAllow x).current k = s.current k := rfl

/-! ## State.setAlloc -/

@[simp] theorem State.setAlloc_ctl (s : State) (x : Allocation) : (s.setAlloc x).ctl = s.ctl := rfl
@[simp] theorem State.setAlloc_acq (s : State) (x : Allocation) : (s.setAlloc x).acq = s.acq := rfl
@[simp] theorem State.setAlloc_port (s : State) (x : Allocation) : (s.setAlloc x).port = s.port := rfl
@[simp] theorem State.setAlloc_sched (s : State) (x : Allocation) : (s.setAlloc x).sched = s.sched := rfl
@[simp] theorem State.setAlloc_view (s : State) (x : Allocation) : (s.setAlloc x).view = s.view := rfl
@[simp] theorem State.setAlloc_allow (s : State) (x : Allocation) : (s.setAlloc x).allow = s.allow := rfl
@[simp] theorem State.setAlloc_alloc (s : State) (x : Allocation) : (s.setAlloc x).alloc = x := rfl
@[simp] theorem State.setAlloc_disp (s : State) (x : Allocation) : (s.setAlloc x).disp = s.disp := rfl
@[simp] theorem State.setAlloc_arb (s : State) (x : Allocation) : (s.setAlloc x).arb = s.arb := rfl
@[simp] theorem State.setAlloc_chans (s : State) (x : Allocation) : (s.setAlloc x).chans = s.chans := rfl
@[simp] theorem State.setAlloc_sup (s : State) (x : Allocation) : (s.setAlloc x).sup = s.sup := rfl
@[simp] theorem State.setAlloc_maint (s : State) (x : Allocation) : (s.setAlloc x).maint = s.maint := rfl
@[simp] theorem State.setAlloc_pending (s : State) (x : Allocation) : (s.setAlloc x).pending = s.pending := rfl
@[simp] theorem State.setAlloc_cfg (s : State) (x : Allocation) : (s.setAlloc x).cfg = s.cfg := rfl
@[simp] theorem State.setAlloc_own (s : State) (x : Allocation) : (s.setAlloc x).own = s.own := rfl
@[simp] theorem State.setAlloc_pump (s : State) (x : Allocation) (k : Chan) : (s.setAlloc x).pump k = s.pump k := rfl
@[simp] theorem State.setAlloc_fitted (s : State) (x : Allocation) (k : Chan) : (s.setAlloc x).fitted k = s.fitted k := rfl
@[simp] theorem State.setAlloc_chan (s : State) (x : Allocation) (k : Chan) : (s.setAlloc x).chan k = s.chan k := rfl
@[simp] theorem State.setAlloc_chanState (s : State) (x : Allocation) (k : Chan) : (s.setAlloc x).chanState k = s.chanState k := rfl
@[simp] theorem State.setAlloc_isIn (s : State) (x : Allocation) (k : Chan) (y : ChanState) : (s.setAlloc x).isIn k y = s.isIn k y := rfl
@[simp] theorem State.setAlloc_inR (s : State) (x : Allocation) (k : Chan) : (s.setAlloc x).inR k = s.inR k := rfl
@[simp] theorem State.setAlloc_turning (s : State) (x : Allocation) (k : Chan) : (s.setAlloc x).turning k = s.turning k := rfl
@[simp] theorem State.setAlloc_record (s : State) (x : Allocation) (n : Nat) : (s.setAlloc x).record n = s.record n := rfl
@[simp] theorem State.setAlloc_reporting (s : State) (x : Allocation) : (s.setAlloc x).reporting = s.reporting := rfl
@[simp] theorem State.setAlloc_qmax (s : State) (x : Allocation) (k : Chan) : (s.setAlloc x).qmax k = s.qmax k := rfl
@[simp] theorem State.setAlloc_qmin (s : State) (x : Allocation) (k : Chan) : (s.setAlloc x).qmin k = s.qmin k := rfl
@[simp] theorem State.setAlloc_current (s : State) (x : Allocation) (k : Chan) : (s.setAlloc x).current k = s.current k := rfl

/-! ## State.setDisp -/

@[simp] theorem State.setDisp_ctl (s : State) (x : Dispatch) : (s.setDisp x).ctl = s.ctl := rfl
@[simp] theorem State.setDisp_acq (s : State) (x : Dispatch) : (s.setDisp x).acq = s.acq := rfl
@[simp] theorem State.setDisp_port (s : State) (x : Dispatch) : (s.setDisp x).port = s.port := rfl
@[simp] theorem State.setDisp_sched (s : State) (x : Dispatch) : (s.setDisp x).sched = s.sched := rfl
@[simp] theorem State.setDisp_view (s : State) (x : Dispatch) : (s.setDisp x).view = s.view := rfl
@[simp] theorem State.setDisp_allow (s : State) (x : Dispatch) : (s.setDisp x).allow = s.allow := rfl
@[simp] theorem State.setDisp_alloc (s : State) (x : Dispatch) : (s.setDisp x).alloc = s.alloc := rfl
@[simp] theorem State.setDisp_disp (s : State) (x : Dispatch) : (s.setDisp x).disp = x := rfl
@[simp] theorem State.setDisp_arb (s : State) (x : Dispatch) : (s.setDisp x).arb = s.arb := rfl
@[simp] theorem State.setDisp_chans (s : State) (x : Dispatch) : (s.setDisp x).chans = s.chans := rfl
@[simp] theorem State.setDisp_sup (s : State) (x : Dispatch) : (s.setDisp x).sup = s.sup := rfl
@[simp] theorem State.setDisp_maint (s : State) (x : Dispatch) : (s.setDisp x).maint = s.maint := rfl
@[simp] theorem State.setDisp_pending (s : State) (x : Dispatch) : (s.setDisp x).pending = s.pending := rfl
@[simp] theorem State.setDisp_cfg (s : State) (x : Dispatch) : (s.setDisp x).cfg = s.cfg := rfl
@[simp] theorem State.setDisp_own (s : State) (x : Dispatch) : (s.setDisp x).own = s.own := rfl
@[simp] theorem State.setDisp_pump (s : State) (x : Dispatch) (k : Chan) : (s.setDisp x).pump k = s.pump k := rfl
@[simp] theorem State.setDisp_fitted (s : State) (x : Dispatch) (k : Chan) : (s.setDisp x).fitted k = s.fitted k := rfl
@[simp] theorem State.setDisp_chan (s : State) (x : Dispatch) (k : Chan) : (s.setDisp x).chan k = s.chan k := rfl
@[simp] theorem State.setDisp_chanState (s : State) (x : Dispatch) (k : Chan) : (s.setDisp x).chanState k = s.chanState k := rfl
@[simp] theorem State.setDisp_isIn (s : State) (x : Dispatch) (k : Chan) (y : ChanState) : (s.setDisp x).isIn k y = s.isIn k y := rfl
@[simp] theorem State.setDisp_inR (s : State) (x : Dispatch) (k : Chan) : (s.setDisp x).inR k = s.inR k := rfl
@[simp] theorem State.setDisp_turning (s : State) (x : Dispatch) (k : Chan) : (s.setDisp x).turning k = s.turning k := rfl
@[simp] theorem State.setDisp_record (s : State) (x : Dispatch) (n : Nat) : (s.setDisp x).record n = s.record n := rfl
@[simp] theorem State.setDisp_reporting (s : State) (x : Dispatch) : (s.setDisp x).reporting = s.reporting := rfl
@[simp] theorem State.setDisp_current (s : State) (x : Dispatch) (k : Chan) : (s.setDisp x).current k = s.current k := rfl

/-! ## State.setArb -/

@[simp] theorem State.setArb_ctl (s : State) (x : Arbiter) : (s.setArb x).ctl = s.ctl := rfl
@[simp] theorem State.setArb_acq (s : State) (x : Arbiter) : (s.setArb x).acq = s.acq := rfl
@[simp] theorem State.setArb_port (s : State) (x : Arbiter) : (s.setArb x).port = s.port := rfl
@[simp] theorem State.setArb_sched (s : State) (x : Arbiter) : (s.setArb x).sched = s.sched := rfl
@[simp] theorem State.setArb_view (s : State) (x : Arbiter) : (s.setArb x).view = s.view := rfl
@[simp] theorem State.setArb_allow (s : State) (x : Arbiter) : (s.setArb x).allow = s.allow := rfl
@[simp] theorem State.setArb_alloc (s : State) (x : Arbiter) : (s.setArb x).alloc = s.alloc := rfl
@[simp] theorem State.setArb_disp (s : State) (x : Arbiter) : (s.setArb x).disp = s.disp := rfl
@[simp] theorem State.setArb_arb (s : State) (x : Arbiter) : (s.setArb x).arb = x := rfl
@[simp] theorem State.setArb_chans (s : State) (x : Arbiter) : (s.setArb x).chans = s.chans := rfl
@[simp] theorem State.setArb_sup (s : State) (x : Arbiter) : (s.setArb x).sup = s.sup := rfl
@[simp] theorem State.setArb_maint (s : State) (x : Arbiter) : (s.setArb x).maint = s.maint := rfl
@[simp] theorem State.setArb_pending (s : State) (x : Arbiter) : (s.setArb x).pending = s.pending := rfl
@[simp] theorem State.setArb_cfg (s : State) (x : Arbiter) : (s.setArb x).cfg = s.cfg := rfl
@[simp] theorem State.setArb_own (s : State) (x : Arbiter) : (s.setArb x).own = s.own := rfl
@[simp] theorem State.setArb_pump (s : State) (x : Arbiter) (k : Chan) : (s.setArb x).pump k = s.pump k := rfl
@[simp] theorem State.setArb_fitted (s : State) (x : Arbiter) (k : Chan) : (s.setArb x).fitted k = s.fitted k := rfl
@[simp] theorem State.setArb_chan (s : State) (x : Arbiter) (k : Chan) : (s.setArb x).chan k = s.chan k := rfl
@[simp] theorem State.setArb_chanState (s : State) (x : Arbiter) (k : Chan) : (s.setArb x).chanState k = s.chanState k := rfl
@[simp] theorem State.setArb_isIn (s : State) (x : Arbiter) (k : Chan) (y : ChanState) : (s.setArb x).isIn k y = s.isIn k y := rfl
@[simp] theorem State.setArb_inR (s : State) (x : Arbiter) (k : Chan) : (s.setArb x).inR k = s.inR k := rfl
@[simp] theorem State.setArb_turning (s : State) (x : Arbiter) (k : Chan) : (s.setArb x).turning k = s.turning k := rfl
@[simp] theorem State.setArb_record (s : State) (x : Arbiter) (n : Nat) : (s.setArb x).record n = s.record n := rfl
@[simp] theorem State.setArb_reporting (s : State) (x : Arbiter) : (s.setArb x).reporting = s.reporting := rfl
@[simp] theorem State.setArb_qmax (s : State) (x : Arbiter) (k : Chan) : (s.setArb x).qmax k = s.qmax k := rfl
@[simp] theorem State.setArb_qmin (s : State) (x : Arbiter) (k : Chan) : (s.setArb x).qmin k = s.qmin k := rfl
@[simp] theorem State.setArb_current (s : State) (x : Arbiter) (k : Chan) : (s.setArb x).current k = s.current k := rfl

/-! ## State.setChans -/

@[simp] theorem State.setChans_ctl (s : State) (x : Quad Channel) : (s.setChans x).ctl = s.ctl := rfl
@[simp] theorem State.setChans_acq (s : State) (x : Quad Channel) : (s.setChans x).acq = s.acq := rfl
@[simp] theorem State.setChans_port (s : State) (x : Quad Channel) : (s.setChans x).port = s.port := rfl
@[simp] theorem State.setChans_sched (s : State) (x : Quad Channel) : (s.setChans x).sched = s.sched := rfl
@[simp] theorem State.setChans_view (s : State) (x : Quad Channel) : (s.setChans x).view = s.view := rfl
@[simp] theorem State.setChans_allow (s : State) (x : Quad Channel) : (s.setChans x).allow = s.allow := rfl
@[simp] theorem State.setChans_alloc (s : State) (x : Quad Channel) : (s.setChans x).alloc = s.alloc := rfl
@[simp] theorem State.setChans_disp (s : State) (x : Quad Channel) : (s.setChans x).disp = s.disp := rfl
@[simp] theorem State.setChans_arb (s : State) (x : Quad Channel) : (s.setChans x).arb = s.arb := rfl
@[simp] theorem State.setChans_chans (s : State) (x : Quad Channel) : (s.setChans x).chans = x := rfl
@[simp] theorem State.setChans_sup (s : State) (x : Quad Channel) : (s.setChans x).sup = s.sup := rfl
@[simp] theorem State.setChans_maint (s : State) (x : Quad Channel) : (s.setChans x).maint = s.maint := rfl
@[simp] theorem State.setChans_pending (s : State) (x : Quad Channel) : (s.setChans x).pending = s.pending := rfl
@[simp] theorem State.setChans_cfg (s : State) (x : Quad Channel) : (s.setChans x).cfg = s.cfg := rfl
@[simp] theorem State.setChans_own (s : State) (x : Quad Channel) : (s.setChans x).own = s.own := rfl
@[simp] theorem State.setChans_pump (s : State) (x : Quad Channel) (k : Chan) : (s.setChans x).pump k = s.pump k := rfl
@[simp] theorem State.setChans_fitted (s : State) (x : Quad Channel) (k : Chan) : (s.setChans x).fitted k = s.fitted k := rfl
@[simp] theorem State.setChans_record (s : State) (x : Quad Channel) (n : Nat) : (s.setChans x).record n = s.record n := rfl
@[simp] theorem State.setChans_reporting (s : State) (x : Quad Channel) : (s.setChans x).reporting = s.reporting := rfl
@[simp] theorem State.setChans_qmax (s : State) (x : Quad Channel) (k : Chan) : (s.setChans x).qmax k = s.qmax k := rfl
@[simp] theorem State.setChans_qmin (s : State) (x : Quad Channel) (k : Chan) : (s.setChans x).qmin k = s.qmin k := rfl
@[simp] theorem State.setChans_current (s : State) (x : Quad Channel) (k : Chan) : (s.setChans x).current k = s.current k := rfl

/-! ## State.setSup -/

@[simp] theorem State.setSup_ctl (s : State) (x : Supervision) : (s.setSup x).ctl = s.ctl := rfl
@[simp] theorem State.setSup_acq (s : State) (x : Supervision) : (s.setSup x).acq = s.acq := rfl
@[simp] theorem State.setSup_port (s : State) (x : Supervision) : (s.setSup x).port = s.port := rfl
@[simp] theorem State.setSup_sched (s : State) (x : Supervision) : (s.setSup x).sched = s.sched := rfl
@[simp] theorem State.setSup_view (s : State) (x : Supervision) : (s.setSup x).view = s.view := rfl
@[simp] theorem State.setSup_allow (s : State) (x : Supervision) : (s.setSup x).allow = s.allow := rfl
@[simp] theorem State.setSup_alloc (s : State) (x : Supervision) : (s.setSup x).alloc = s.alloc := rfl
@[simp] theorem State.setSup_disp (s : State) (x : Supervision) : (s.setSup x).disp = s.disp := rfl
@[simp] theorem State.setSup_arb (s : State) (x : Supervision) : (s.setSup x).arb = s.arb := rfl
@[simp] theorem State.setSup_chans (s : State) (x : Supervision) : (s.setSup x).chans = s.chans := rfl
@[simp] theorem State.setSup_sup (s : State) (x : Supervision) : (s.setSup x).sup = x := rfl
@[simp] theorem State.setSup_maint (s : State) (x : Supervision) : (s.setSup x).maint = s.maint := rfl
@[simp] theorem State.setSup_pending (s : State) (x : Supervision) : (s.setSup x).pending = s.pending := rfl
@[simp] theorem State.setSup_cfg (s : State) (x : Supervision) : (s.setSup x).cfg = s.cfg := rfl
@[simp] theorem State.setSup_own (s : State) (x : Supervision) : (s.setSup x).own = s.own := rfl
@[simp] theorem State.setSup_pump (s : State) (x : Supervision) (k : Chan) : (s.setSup x).pump k = s.pump k := rfl
@[simp] theorem State.setSup_fitted (s : State) (x : Supervision) (k : Chan) : (s.setSup x).fitted k = s.fitted k := rfl
@[simp] theorem State.setSup_chan (s : State) (x : Supervision) (k : Chan) : (s.setSup x).chan k = s.chan k := rfl
@[simp] theorem State.setSup_chanState (s : State) (x : Supervision) (k : Chan) : (s.setSup x).chanState k = s.chanState k := rfl
@[simp] theorem State.setSup_isIn (s : State) (x : Supervision) (k : Chan) (y : ChanState) : (s.setSup x).isIn k y = s.isIn k y := rfl
@[simp] theorem State.setSup_inR (s : State) (x : Supervision) (k : Chan) : (s.setSup x).inR k = s.inR k := rfl
@[simp] theorem State.setSup_turning (s : State) (x : Supervision) (k : Chan) : (s.setSup x).turning k = s.turning k := rfl
@[simp] theorem State.setSup_record (s : State) (x : Supervision) (n : Nat) : (s.setSup x).record n = s.record n := rfl
@[simp] theorem State.setSup_reporting (s : State) (x : Supervision) : (s.setSup x).reporting = s.reporting := rfl
@[simp] theorem State.setSup_qmax (s : State) (x : Supervision) (k : Chan) : (s.setSup x).qmax k = s.qmax k := rfl
@[simp] theorem State.setSup_qmin (s : State) (x : Supervision) (k : Chan) : (s.setSup x).qmin k = s.qmin k := rfl
@[simp] theorem State.setSup_current (s : State) (x : Supervision) (k : Chan) : (s.setSup x).current k = s.current k := rfl

/-! ## State.setMaint -/

@[simp] theorem State.setMaint_ctl (s : State) (x : Maintenance) : (s.setMaint x).ctl = s.ctl := rfl
@[simp] theorem State.setMaint_acq (s : State) (x : Maintenance) : (s.setMaint x).acq = s.acq := rfl
@[simp] theorem State.setMaint_port (s : State) (x : Maintenance) : (s.setMaint x).port = s.port := rfl
@[simp] theorem State.setMaint_sched (s : State) (x : Maintenance) : (s.setMaint x).sched = s.sched := rfl
@[simp] theorem State.setMaint_view (s : State) (x : Maintenance) : (s.setMaint x).view = s.view := rfl
@[simp] theorem State.setMaint_allow (s : State) (x : Maintenance) : (s.setMaint x).allow = s.allow := rfl
@[simp] theorem State.setMaint_alloc (s : State) (x : Maintenance) : (s.setMaint x).alloc = s.alloc := rfl
@[simp] theorem State.setMaint_disp (s : State) (x : Maintenance) : (s.setMaint x).disp = s.disp := rfl
@[simp] theorem State.setMaint_arb (s : State) (x : Maintenance) : (s.setMaint x).arb = s.arb := rfl
@[simp] theorem State.setMaint_chans (s : State) (x : Maintenance) : (s.setMaint x).chans = s.chans := rfl
@[simp] theorem State.setMaint_sup (s : State) (x : Maintenance) : (s.setMaint x).sup = s.sup := rfl
@[simp] theorem State.setMaint_maint (s : State) (x : Maintenance) : (s.setMaint x).maint = x := rfl
@[simp] theorem State.setMaint_pending (s : State) (x : Maintenance) : (s.setMaint x).pending = s.pending := rfl
@[simp] theorem State.setMaint_cfg (s : State) (x : Maintenance) : (s.setMaint x).cfg = s.cfg := rfl
@[simp] theorem State.setMaint_own (s : State) (x : Maintenance) : (s.setMaint x).own = s.own := rfl
@[simp] theorem State.setMaint_pump (s : State) (x : Maintenance) (k : Chan) : (s.setMaint x).pump k = s.pump k := rfl
@[simp] theorem State.setMaint_fitted (s : State) (x : Maintenance) (k : Chan) : (s.setMaint x).fitted k = s.fitted k := rfl
@[simp] theorem State.setMaint_chan (s : State) (x : Maintenance) (k : Chan) : (s.setMaint x).chan k = s.chan k := rfl
@[simp] theorem State.setMaint_chanState (s : State) (x : Maintenance) (k : Chan) : (s.setMaint x).chanState k = s.chanState k := rfl
@[simp] theorem State.setMaint_isIn (s : State) (x : Maintenance) (k : Chan) (y : ChanState) : (s.setMaint x).isIn k y = s.isIn k y := rfl
@[simp] theorem State.setMaint_inR (s : State) (x : Maintenance) (k : Chan) : (s.setMaint x).inR k = s.inR k := rfl
@[simp] theorem State.setMaint_turning (s : State) (x : Maintenance) (k : Chan) : (s.setMaint x).turning k = s.turning k := rfl
@[simp] theorem State.setMaint_record (s : State) (x : Maintenance) (n : Nat) : (s.setMaint x).record n = s.record n := rfl
@[simp] theorem State.setMaint_reporting (s : State) (x : Maintenance) : (s.setMaint x).reporting = s.reporting := rfl
@[simp] theorem State.setMaint_qmax (s : State) (x : Maintenance) (k : Chan) : (s.setMaint x).qmax k = s.qmax k := rfl
@[simp] theorem State.setMaint_qmin (s : State) (x : Maintenance) (k : Chan) : (s.setMaint x).qmin k = s.qmin k := rfl
@[simp] theorem State.setMaint_current (s : State) (x : Maintenance) (k : Chan) : (s.setMaint x).current k = s.current k := rfl

/-! ## Channels and records -/

@[simp] theorem quadGet_quadSet_same {α : Type} (q : Quad α) (k : Chan) (x : α) : quadGet (quadSet q k x) k = x := by
  cases k <;> rfl

theorem quadGet_quadSet_other {α : Type} (q : Quad α) {j k : Chan} (x : α) (h : j ≠ k) :
    quadGet (quadSet q k x) j = quadGet q j := by
  cases j <;> cases k <;> first | rfl | exact absurd rfl h

theorem quadGet_quadSet {α : Type} (q : Quad α) (j k : Chan) (x : α) :
    quadGet (quadSet q k x) j = if j = k then x else quadGet q j := by
  cases j <;> cases k <;> rfl

@[simp] theorem quadGet_quadOf {α : Type} (f : Chan → α) (k : Chan) : quadGet (quadOf f) k = f k := by
  cases k <;> rfl

/-- Two quads are equal when they agree on every channel. -/
theorem quad_ext {α : Type} {q q' : Quad α} (h : ∀ k, quadGet q k = quadGet q' k) : q = q' := by
  cases q; cases q'
  have h1 := h .p1; have h2 := h .p2; have h3 := h .p3; have h4 := h .p4
  simp only [quadGet] at h1 h2 h3 h4
  simp [h1, h2, h3, h4]

theorem State.setChan_chan (s : State) (j k : Chan) (c : Channel) :
    (s.setChan k c).chan j = if j = k then c else s.chan j := by
  cases j <;> cases k <;> rfl

@[simp] theorem State.setChan_ctl (s : State) (k : Chan) (c : Channel) : (s.setChan k c).ctl = s.ctl := rfl
@[simp] theorem State.setChan_acq (s : State) (k : Chan) (c : Channel) : (s.setChan k c).acq = s.acq := rfl
@[simp] theorem State.setChan_port (s : State) (k : Chan) (c : Channel) : (s.setChan k c).port = s.port := rfl
@[simp] theorem State.setChan_sched (s : State) (k : Chan) (c : Channel) : (s.setChan k c).sched = s.sched := rfl
@[simp] theorem State.setChan_view (s : State) (k : Chan) (c : Channel) : (s.setChan k c).view = s.view := rfl
@[simp] theorem State.setChan_allow (s : State) (k : Chan) (c : Channel) : (s.setChan k c).allow = s.allow := rfl
@[simp] theorem State.setChan_alloc (s : State) (k : Chan) (c : Channel) : (s.setChan k c).alloc = s.alloc := rfl
@[simp] theorem State.setChan_disp (s : State) (k : Chan) (c : Channel) : (s.setChan k c).disp = s.disp := rfl
@[simp] theorem State.setChan_arb (s : State) (k : Chan) (c : Channel) : (s.setChan k c).arb = s.arb := rfl
@[simp] theorem State.setChan_sup (s : State) (k : Chan) (c : Channel) : (s.setChan k c).sup = s.sup := rfl
@[simp] theorem State.setChan_maint (s : State) (k : Chan) (c : Channel) : (s.setChan k c).maint = s.maint := rfl
@[simp] theorem State.setChan_pending (s : State) (k : Chan) (c : Channel) : (s.setChan k c).pending = s.pending := rfl
@[simp] theorem State.setRecord_ctl (s : State) (n : Nat) (r : PeerRecord) : (s.setRecord n r).ctl = s.ctl := rfl
@[simp] theorem State.setRecord_acq (s : State) (n : Nat) (r : PeerRecord) : (s.setRecord n r).acq = s.acq := rfl
@[simp] theorem State.setRecord_port (s : State) (n : Nat) (r : PeerRecord) : (s.setRecord n r).port = s.port := rfl
@[simp] theorem State.setRecord_sched (s : State) (n : Nat) (r : PeerRecord) : (s.setRecord n r).sched = s.sched := rfl
@[simp] theorem State.setRecord_allow (s : State) (n : Nat) (r : PeerRecord) : (s.setRecord n r).allow = s.allow := rfl
@[simp] theorem State.setRecord_alloc (s : State) (n : Nat) (r : PeerRecord) : (s.setRecord n r).alloc = s.alloc := rfl
@[simp] theorem State.setRecord_disp (s : State) (n : Nat) (r : PeerRecord) : (s.setRecord n r).disp = s.disp := rfl
@[simp] theorem State.setRecord_arb (s : State) (n : Nat) (r : PeerRecord) : (s.setRecord n r).arb = s.arb := rfl
@[simp] theorem State.setRecord_chans (s : State) (n : Nat) (r : PeerRecord) : (s.setRecord n r).chans = s.chans := rfl
@[simp] theorem State.setRecord_sup (s : State) (n : Nat) (r : PeerRecord) : (s.setRecord n r).sup = s.sup := rfl
@[simp] theorem State.setRecord_maint (s : State) (n : Nat) (r : PeerRecord) : (s.setRecord n r).maint = s.maint := rfl
@[simp] theorem State.setRecord_pending (s : State) (n : Nat) (r : PeerRecord) : (s.setRecord n r).pending = s.pending := rfl
@[simp] theorem State.setChan_cfg (s : State) (k : Chan) (c : Channel) : (s.setChan k c).cfg = s.cfg := rfl
@[simp] theorem State.setRecord_cfg (s : State) (m : Nat) (x : PeerRecord) : (s.setRecord m x).cfg = s.cfg := rfl
@[simp] theorem State.setChan_own (s : State) (k : Chan) (c : Channel) : (s.setChan k c).own = s.own := rfl
@[simp] theorem State.setRecord_own (s : State) (m : Nat) (x : PeerRecord) : (s.setRecord m x).own = s.own := rfl
@[simp] theorem State.setChan_pump (s : State) (k : Chan) (c : Channel) (j : Chan) : (s.setChan k c).pump j = s.pump j := rfl
@[simp] theorem State.setRecord_pump (s : State) (m : Nat) (x : PeerRecord) (k : Chan) : (s.setRecord m x).pump k = s.pump k := rfl
@[simp] theorem State.setChan_fitted (s : State) (k : Chan) (c : Channel) (j : Chan) : (s.setChan k c).fitted j = s.fitted j := rfl
@[simp] theorem State.setRecord_fitted (s : State) (m : Nat) (x : PeerRecord) (k : Chan) : (s.setRecord m x).fitted k = s.fitted k := rfl
@[simp] theorem State.setRecord_chan (s : State) (m : Nat) (x : PeerRecord) (k : Chan) : (s.setRecord m x).chan k = s.chan k := rfl
@[simp] theorem State.setRecord_chanState (s : State) (m : Nat) (x : PeerRecord) (k : Chan) : (s.setRecord m x).chanState k = s.chanState k := rfl
@[simp] theorem State.setRecord_isIn (s : State) (m : Nat) (x : PeerRecord) (k : Chan) (y : ChanState) : (s.setRecord m x).isIn k y = s.isIn k y := rfl
@[simp] theorem State.setRecord_inR (s : State) (m : Nat) (x : PeerRecord) (k : Chan) : (s.setRecord m x).inR k = s.inR k := rfl
@[simp] theorem State.setRecord_turning (s : State) (m : Nat) (x : PeerRecord) (k : Chan) : (s.setRecord m x).turning k = s.turning k := rfl
@[simp] theorem State.setChan_record (s : State) (k : Chan) (c : Channel) (n : Nat) : (s.setChan k c).record n = s.record n := rfl
@[simp] theorem State.setChan_reporting (s : State) (k : Chan) (c : Channel) : (s.setChan k c).reporting = s.reporting := rfl
@[simp] theorem State.setRecord_reporting (s : State) (m : Nat) (x : PeerRecord) : (s.setRecord m x).reporting = s.reporting := rfl
@[simp] theorem State.setChan_qmax (s : State) (k : Chan) (c : Channel) (j : Chan) : (s.setChan k c).qmax j = s.qmax j := rfl
@[simp] theorem State.setRecord_qmax (s : State) (m : Nat) (x : PeerRecord) (k : Chan) : (s.setRecord m x).qmax k = s.qmax k := rfl
@[simp] theorem State.setChan_qmin (s : State) (k : Chan) (c : Channel) (j : Chan) : (s.setChan k c).qmin j = s.qmin j := rfl
@[simp] theorem State.setRecord_qmin (s : State) (m : Nat) (x : PeerRecord) (k : Chan) : (s.setRecord m x).qmin k = s.qmin k := rfl
@[simp] theorem State.setChan_current (s : State) (k : Chan) (c : Channel) (j : Chan) : (s.setChan k c).current j = s.current j := rfl
@[simp] theorem State.setRecord_current (s : State) (m : Nat) (x : PeerRecord) (k : Chan) : (s.setRecord m x).current k = s.current k := rfl

/-- A record read after another has been replaced. -/
theorem State.setRecord_record (s : State) (m n : Nat) (r : PeerRecord) (hm : 1 ≤ m) (hn : 1 ≤ n) :
    (s.setRecord m r).record n = if n = m ∧ m ≤ s.view.records.length then r else s.record n := by
  simp only [State.setRecord, State.record, State.setView_view, List.getD_eq_getElem?_getD, List.getElem?_set]
  by_cases h : n = m
  · subst h
    by_cases h2 : n ≤ s.view.records.length
    · simp [h2, show n - 1 < s.view.records.length by omega]
    · simp [h2, show ¬ n - 1 < s.view.records.length by omega]
  · have : m - 1 ≠ n - 1 := by omega
    simp [h, this]

end Sys2Proof.Machine
end

