-- ==== Sys2Proof/Laws/Ops.lean ====
section
/-! SUPPORT. The frame of each shared operation: the blocks it leaves as they were, said once, so that no later proof
unfolds it; and, for the operations that only touch the transmit queue, the fields of the port they leave. -/

namespace Sys2Proof.Machine

@[simp] theorem formTable_frame (s : State) :
    (formTable s).ctl = s.ctl ∧ (formTable s).acq = s.acq ∧ (formTable s).port = s.port
    ∧ (formTable s).sched = s.sched ∧ (formTable s).view = s.view ∧ (formTable s).allow = s.allow
    ∧ (formTable s).alloc = s.alloc ∧ (formTable s).arb = s.arb ∧ (formTable s).chans = s.chans
    ∧ (formTable s).sup = s.sup ∧ (formTable s).maint = s.maint ∧ (formTable s).pending = s.pending := by
  simp only [formTable]; repeat' split
  all_goals simp

@[simp] theorem reform_frame (s : State) :
    (reform s).ctl = s.ctl ∧ (reform s).acq = s.acq ∧ (reform s).port = s.port ∧ (reform s).sched = s.sched
    ∧ (reform s).view = s.view ∧ (reform s).allow = s.allow ∧ (reform s).alloc = s.alloc
    ∧ (reform s).arb = s.arb ∧ (reform s).chans = s.chans ∧ (reform s).sup = s.sup ∧ (reform s).maint = s.maint
    ∧ (reform s).pending = s.pending := by
  simp [reform]

@[simp] theorem formNt_frame (s : State) :
    (formNt s).ctl = s.ctl ∧ (formNt s).acq = s.acq ∧ (formNt s).port = s.port ∧ (formNt s).sched = s.sched
    ∧ (formNt s).view = s.view ∧ (formNt s).allow = s.allow ∧ (formNt s).alloc = s.alloc
    ∧ (formNt s).arb = s.arb ∧ (formNt s).chans = s.chans ∧ (formNt s).sup = s.sup ∧ (formNt s).maint = s.maint
    ∧ (formNt s).pending = s.pending := by
  simp only [formNt]; repeat' split
  all_goals simp

@[simp] theorem judgeHand_frame (s : State) :
    (judgeHand s).ctl = s.ctl ∧ (judgeHand s).acq = s.acq ∧ (judgeHand s).port = s.port
    ∧ (judgeHand s).sched = s.sched ∧ (judgeHand s).view = s.view ∧ (judgeHand s).allow = s.allow
    ∧ (judgeHand s).alloc = s.alloc ∧ (judgeHand s).arb = s.arb ∧ (judgeHand s).chans = s.chans
    ∧ (judgeHand s).sup = s.sup ∧ (judgeHand s).maint = s.maint ∧ (judgeHand s).pending = s.pending := by
  simp [judgeHand]

@[simp] theorem startHoldOff_frame (s : State) (n : OwnNotice) :
    (startHoldOff s n).ctl = s.ctl ∧ (startHoldOff s n).acq = s.acq ∧ (startHoldOff s n).port = s.port
    ∧ (startHoldOff s n).sched = s.sched ∧ (startHoldOff s n).view = s.view
    ∧ (startHoldOff s n).allow = s.allow ∧ (startHoldOff s n).alloc = s.alloc
    ∧ (startHoldOff s n).disp = s.disp ∧ (startHoldOff s n).chans = s.chans ∧ (startHoldOff s n).sup = s.sup
    ∧ (startHoldOff s n).maint = s.maint ∧ (startHoldOff s n).pending = s.pending := by
  simp [startHoldOff]

@[simp] theorem startEnded_frame (s : State) (n : Nat) :
    (startEnded s n).ctl = s.ctl ∧ (startEnded s n).acq = s.acq ∧ (startEnded s n).port = s.port
    ∧ (startEnded s n).sched = s.sched ∧ (startEnded s n).view = s.view ∧ (startEnded s n).allow = s.allow
    ∧ (startEnded s n).alloc = s.alloc ∧ (startEnded s n).disp = s.disp ∧ (startEnded s n).chans = s.chans
    ∧ (startEnded s n).sup = s.sup ∧ (startEnded s n).maint = s.maint ∧ (startEnded s n).pending = s.pending := by
  simp only [startEnded]; repeat' split
  all_goals simp

@[simp] theorem startPhase_frame (s : State) (n : Nat) (p : NoticePhase) :
    (startPhase s n p).ctl = s.ctl ∧ (startPhase s n p).acq = s.acq ∧ (startPhase s n p).port = s.port
    ∧ (startPhase s n p).sched = s.sched ∧ (startPhase s n p).view = s.view
    ∧ (startPhase s n p).allow = s.allow ∧ (startPhase s n p).alloc = s.alloc
    ∧ (startPhase s n p).disp = s.disp ∧ (startPhase s n p).chans = s.chans ∧ (startPhase s n p).sup = s.sup
    ∧ (startPhase s n p).maint = s.maint ∧ (startPhase s n p).pending = s.pending := by
  simp only [startPhase]; repeat' split
  all_goals simp

@[simp] theorem offerStage_frame (s : State) (p : StagePayload) :
    (offerStage s p).ctl = s.ctl ∧ (offerStage s p).acq = s.acq ∧ (offerStage s p).sched = s.sched
    ∧ (offerStage s p).view = s.view ∧ (offerStage s p).allow = s.allow ∧ (offerStage s p).alloc = s.alloc
    ∧ (offerStage s p).disp = s.disp ∧ (offerStage s p).arb = s.arb ∧ (offerStage s p).chans = s.chans
    ∧ (offerStage s p).sup = s.sup ∧ (offerStage s p).maint = s.maint ∧ (offerStage s p).pending = s.pending := by
  simp only [offerStage]; repeat' split
  all_goals simp

@[simp] theorem offerStage_port (s : State) (p : StagePayload) :
    (offerStage s p).port.state = s.port.state ∧ (offerStage s p).port.bitRate = s.port.bitRate
    ∧ (offerStage s p).port.lastSender = s.port.lastSender ∧ (offerStage s p).port.idle = s.port.idle
    ∧ (offerStage s p).port.sync = s.port.sync ∧ (offerStage s p).port.tx = s.port.tx
    ∧ (offerStage s p).port.lossCount = s.port.lossCount
    ∧ (offerStage s p).port.lineFaultTimer = s.port.lineFaultTimer ∧ (offerStage s p).port.good = s.port.good
    ∧ (offerStage s p).port.bad = s.port.bad ∧ (offerStage s p).port.losses = s.port.losses
    ∧ (offerStage s p).port.lineFaults = s.port.lineFaults
    ∧ (offerStage s p).port.firstError = s.port.firstError ∧ (offerStage s p).port.selfTest = s.port.selfTest
    ∧ (offerStage s p).port.seconds = s.port.seconds ∧ (offerStage s p).port.muteHeld = s.port.muteHeld := by
  simp only [offerStage]; repeat' split
  all_goals simp

@[simp] theorem composeStage_frame (s : State) :
    (composeStage s).ctl = s.ctl ∧ (composeStage s).acq = s.acq ∧ (composeStage s).allow = s.allow
    ∧ (composeStage s).alloc = s.alloc ∧ (composeStage s).disp = s.disp ∧ (composeStage s).arb = s.arb
    ∧ (composeStage s).chans = s.chans ∧ (composeStage s).sup = s.sup ∧ (composeStage s).maint = s.maint
    ∧ (composeStage s).pending = s.pending := by
  simp [composeStage]

@[simp] theorem composeStage_port (s : State) :
    (composeStage s).port.state = s.port.state ∧ (composeStage s).port.bitRate = s.port.bitRate
    ∧ (composeStage s).port.lastSender = s.port.lastSender ∧ (composeStage s).port.idle = s.port.idle
    ∧ (composeStage s).port.sync = s.port.sync ∧ (composeStage s).port.tx = s.port.tx
    ∧ (composeStage s).port.lossCount = s.port.lossCount
    ∧ (composeStage s).port.lineFaultTimer = s.port.lineFaultTimer ∧ (composeStage s).port.good = s.port.good
    ∧ (composeStage s).port.bad = s.port.bad ∧ (composeStage s).port.losses = s.port.losses
    ∧ (composeStage s).port.lineFaults = s.port.lineFaults
    ∧ (composeStage s).port.firstError = s.port.firstError ∧ (composeStage s).port.selfTest = s.port.selfTest
    ∧ (composeStage s).port.seconds = s.port.seconds ∧ (composeStage s).port.muteHeld = s.port.muteHeld := by
  simp [composeStage]

@[simp] theorem composeStage_coord (s : State) : (composeStage s).sched.coord = s.sched.coord := by
  simp [composeStage]

@[simp] theorem promptCause_frame (s : State) :
    (promptCause s).ctl = s.ctl ∧ (promptCause s).acq = s.acq ∧ (promptCause s).allow = s.allow
    ∧ (promptCause s).alloc = s.alloc ∧ (promptCause s).disp = s.disp ∧ (promptCause s).arb = s.arb
    ∧ (promptCause s).chans = s.chans ∧ (promptCause s).sup = s.sup ∧ (promptCause s).maint = s.maint
    ∧ (promptCause s).pending = s.pending := by
  simp only [promptCause]; repeat' split
  all_goals simp

@[simp] theorem promptCause_port (s : State) :
    (promptCause s).port.state = s.port.state ∧ (promptCause s).port.bitRate = s.port.bitRate
    ∧ (promptCause s).port.lastSender = s.port.lastSender ∧ (promptCause s).port.idle = s.port.idle
    ∧ (promptCause s).port.sync = s.port.sync ∧ (promptCause s).port.tx = s.port.tx
    ∧ (promptCause s).port.lossCount = s.port.lossCount
    ∧ (promptCause s).port.lineFaultTimer = s.port.lineFaultTimer ∧ (promptCause s).port.good = s.port.good
    ∧ (promptCause s).port.bad = s.port.bad ∧ (promptCause s).port.losses = s.port.losses
    ∧ (promptCause s).port.lineFaults = s.port.lineFaults ∧ (promptCause s).port.firstError = s.port.firstError
    ∧ (promptCause s).port.selfTest = s.port.selfTest ∧ (promptCause s).port.seconds = s.port.seconds
    ∧ (promptCause s).port.muteHeld = s.port.muteHeld := by
  simp only [promptCause]; repeat' split
  all_goals simp

@[simp] theorem promptCause_coord (s : State) : (promptCause s).sched.coord = s.sched.coord := by
  simp only [promptCause]; repeat' split
  all_goals simp

@[simp] theorem stageLost_frame (s : State) :
    (stageLost s).ctl = s.ctl ∧ (stageLost s).acq = s.acq ∧ (stageLost s).allow = s.allow
    ∧ (stageLost s).alloc = s.alloc ∧ (stageLost s).disp = s.disp ∧ (stageLost s).arb = s.arb
    ∧ (stageLost s).chans = s.chans ∧ (stageLost s).sup = s.sup ∧ (stageLost s).maint = s.maint
    ∧ (stageLost s).pending = s.pending := by
  simp only [stageLost]; repeat' split
  all_goals simp

@[simp] theorem stageLost_port (s : State) :
    (stageLost s).port.state = s.port.state ∧ (stageLost s).port.bitRate = s.port.bitRate
    ∧ (stageLost s).port.lastSender = s.port.lastSender ∧ (stageLost s).port.idle = s.port.idle
    ∧ (stageLost s).port.sync = s.port.sync ∧ (stageLost s).port.tx = s.port.tx
    ∧ (stageLost s).port.lossCount = s.port.lossCount
    ∧ (stageLost s).port.lineFaultTimer = s.port.lineFaultTimer ∧ (stageLost s).port.good = s.port.good
    ∧ (stageLost s).port.bad = s.port.bad ∧ (stageLost s).port.losses = s.port.losses
    ∧ (stageLost s).port.lineFaults = s.port.lineFaults ∧ (stageLost s).port.firstError = s.port.firstError
    ∧ (stageLost s).port.selfTest = s.port.selfTest ∧ (stageLost s).port.seconds = s.port.seconds
    ∧ (stageLost s).port.muteHeld = s.port.muteHeld := by
  simp only [stageLost]; repeat' split
  all_goals simp

@[simp] theorem stageLost_coord (s : State) : (stageLost s).sched.coord = s.sched.coord := by
  simp only [stageLost]; repeat' split
  all_goals simp

@[simp] theorem promptCauses_frame (n : Nat) (s : State) :
    (promptCauses n s).ctl = s.ctl ∧ (promptCauses n s).acq = s.acq ∧ (promptCauses n s).allow = s.allow
    ∧ (promptCauses n s).alloc = s.alloc ∧ (promptCauses n s).disp = s.disp ∧ (promptCauses n s).arb = s.arb
    ∧ (promptCauses n s).chans = s.chans ∧ (promptCauses n s).sup = s.sup ∧ (promptCauses n s).maint = s.maint
    ∧ (promptCauses n s).pending = s.pending := by
  induction n generalizing s with
  | zero => simp [promptCauses]
  | succ n ih => simp [promptCauses, ih]

@[simp] theorem promptCauses_port (n : Nat) (s : State) :
    (promptCauses n s).port.state = s.port.state ∧ (promptCauses n s).port.bitRate = s.port.bitRate
    ∧ (promptCauses n s).port.lastSender = s.port.lastSender ∧ (promptCauses n s).port.idle = s.port.idle
    ∧ (promptCauses n s).port.sync = s.port.sync ∧ (promptCauses n s).port.tx = s.port.tx
    ∧ (promptCauses n s).port.lossCount = s.port.lossCount
    ∧ (promptCauses n s).port.lineFaultTimer = s.port.lineFaultTimer
    ∧ (promptCauses n s).port.good = s.port.good ∧ (promptCauses n s).port.bad = s.port.bad
    ∧ (promptCauses n s).port.losses = s.port.losses ∧ (promptCauses n s).port.lineFaults = s.port.lineFaults
    ∧ (promptCauses n s).port.firstError = s.port.firstError
    ∧ (promptCauses n s).port.selfTest = s.port.selfTest ∧ (promptCauses n s).port.seconds = s.port.seconds
    ∧ (promptCauses n s).port.muteHeld = s.port.muteHeld := by
  induction n generalizing s with
  | zero => simp [promptCauses]
  | succ n ih => simp [promptCauses, ih]

@[simp] theorem promptCauses_coord (n : Nat) (s : State) : (promptCauses n s).sched.coord = s.sched.coord := by
  induction n generalizing s with
  | zero => simp [promptCauses]
  | succ n ih => simp [promptCauses, ih]

@[simp] theorem enterLeft_frame (s : State) :
    (enterLeft s).ctl = s.ctl ∧ (enterLeft s).acq = s.acq ∧ (enterLeft s).view = s.view
    ∧ (enterLeft s).allow = s.allow ∧ (enterLeft s).disp = s.disp ∧ (enterLeft s).arb = s.arb
    ∧ (enterLeft s).chans = s.chans ∧ (enterLeft s).sup = s.sup ∧ (enterLeft s).maint = s.maint
    ∧ (enterLeft s).pending = s.pending := by
  simp [enterLeft]

@[simp] theorem enterLeft_port (s : State) :
    (enterLeft s).port.state = s.port.state ∧ (enterLeft s).port.bitRate = s.port.bitRate
    ∧ (enterLeft s).port.lastSender = s.port.lastSender ∧ (enterLeft s).port.idle = s.port.idle
    ∧ (enterLeft s).port.sync = s.port.sync ∧ (enterLeft s).port.tx = s.port.tx
    ∧ (enterLeft s).port.lossCount = s.port.lossCount
    ∧ (enterLeft s).port.lineFaultTimer = s.port.lineFaultTimer ∧ (enterLeft s).port.good = s.port.good
    ∧ (enterLeft s).port.bad = s.port.bad ∧ (enterLeft s).port.losses = s.port.losses
    ∧ (enterLeft s).port.lineFaults = s.port.lineFaults ∧ (enterLeft s).port.firstError = s.port.firstError
    ∧ (enterLeft s).port.selfTest = s.port.selfTest ∧ (enterLeft s).port.seconds = s.port.seconds
    ∧ (enterLeft s).port.muteHeld = s.port.muteHeld := by
  simp [enterLeft]

@[simp] theorem quitEnded_frame (s : State) :
    (quitEnded s).ctl = s.ctl ∧ (quitEnded s).acq = s.acq ∧ (quitEnded s).view = s.view
    ∧ (quitEnded s).allow = s.allow ∧ (quitEnded s).disp = s.disp ∧ (quitEnded s).arb = s.arb
    ∧ (quitEnded s).chans = s.chans ∧ (quitEnded s).sup = s.sup ∧ (quitEnded s).maint = s.maint
    ∧ (quitEnded s).pending = s.pending := by
  simp only [quitEnded]; repeat' split
  all_goals simp

@[simp] theorem quitEnded_port (s : State) :
    (quitEnded s).port.state = s.port.state ∧ (quitEnded s).port.bitRate = s.port.bitRate
    ∧ (quitEnded s).port.lastSender = s.port.lastSender ∧ (quitEnded s).port.idle = s.port.idle
    ∧ (quitEnded s).port.sync = s.port.sync ∧ (quitEnded s).port.tx = s.port.tx
    ∧ (quitEnded s).port.lossCount = s.port.lossCount
    ∧ (quitEnded s).port.lineFaultTimer = s.port.lineFaultTimer ∧ (quitEnded s).port.good = s.port.good
    ∧ (quitEnded s).port.bad = s.port.bad ∧ (quitEnded s).port.losses = s.port.losses
    ∧ (quitEnded s).port.lineFaults = s.port.lineFaults ∧ (quitEnded s).port.firstError = s.port.firstError
    ∧ (quitEnded s).port.selfTest = s.port.selfTest ∧ (quitEnded s).port.seconds = s.port.seconds
    ∧ (quitEnded s).port.muteHeld = s.port.muteHeld := by
  simp only [quitEnded]; repeat' split
  all_goals simp

@[simp] theorem offerQuit_frame (s : State) :
    (offerQuit s).ctl = s.ctl ∧ (offerQuit s).acq = s.acq ∧ (offerQuit s).view = s.view
    ∧ (offerQuit s).allow = s.allow ∧ (offerQuit s).disp = s.disp ∧ (offerQuit s).chans = s.chans
    ∧ (offerQuit s).sup = s.sup ∧ (offerQuit s).maint = s.maint ∧ (offerQuit s).pending = s.pending := by
  simp only [offerQuit]; repeat' split
  all_goals simp

@[simp] theorem offerQuit_port (s : State) :
    (offerQuit s).port.state = s.port.state ∧ (offerQuit s).port.bitRate = s.port.bitRate
    ∧ (offerQuit s).port.lastSender = s.port.lastSender ∧ (offerQuit s).port.idle = s.port.idle
    ∧ (offerQuit s).port.sync = s.port.sync ∧ (offerQuit s).port.tx = s.port.tx
    ∧ (offerQuit s).port.lossCount = s.port.lossCount
    ∧ (offerQuit s).port.lineFaultTimer = s.port.lineFaultTimer ∧ (offerQuit s).port.good = s.port.good
    ∧ (offerQuit s).port.bad = s.port.bad ∧ (offerQuit s).port.losses = s.port.losses
    ∧ (offerQuit s).port.lineFaults = s.port.lineFaults ∧ (offerQuit s).port.firstError = s.port.firstError
    ∧ (offerQuit s).port.selfTest = s.port.selfTest ∧ (offerQuit s).port.seconds = s.port.seconds
    ∧ (offerQuit s).port.muteHeld = s.port.muteHeld := by
  simp only [offerQuit]; repeat' split
  all_goals simp

@[simp] theorem quitTest_frame (s : State) :
    (quitTest s).ctl = s.ctl ∧ (quitTest s).acq = s.acq ∧ (quitTest s).view = s.view
    ∧ (quitTest s).allow = s.allow ∧ (quitTest s).disp = s.disp ∧ (quitTest s).chans = s.chans
    ∧ (quitTest s).sup = s.sup ∧ (quitTest s).maint = s.maint ∧ (quitTest s).pending = s.pending := by
  simp only [quitTest]; repeat' split
  all_goals simp

@[simp] theorem quitTest_port (s : State) :
    (quitTest s).port.state = s.port.state ∧ (quitTest s).port.bitRate = s.port.bitRate
    ∧ (quitTest s).port.lastSender = s.port.lastSender ∧ (quitTest s).port.idle = s.port.idle
    ∧ (quitTest s).port.sync = s.port.sync ∧ (quitTest s).port.tx = s.port.tx
    ∧ (quitTest s).port.lossCount = s.port.lossCount ∧ (quitTest s).port.lineFaultTimer = s.port.lineFaultTimer
    ∧ (quitTest s).port.good = s.port.good ∧ (quitTest s).port.bad = s.port.bad
    ∧ (quitTest s).port.losses = s.port.losses ∧ (quitTest s).port.lineFaults = s.port.lineFaults
    ∧ (quitTest s).port.firstError = s.port.firstError ∧ (quitTest s).port.selfTest = s.port.selfTest
    ∧ (quitTest s).port.seconds = s.port.seconds ∧ (quitTest s).port.muteHeld = s.port.muteHeld := by
  simp only [quitTest]; repeat' split
  all_goals simp

@[simp] theorem settle_frame (s0 : State) (n : Nat) (s : State) :
    (settle s0 n s).ctl = s.ctl ∧ (settle s0 n s).acq = s.acq ∧ (settle s0 n s).allow = s.allow
    ∧ (settle s0 n s).chans = s.chans ∧ (settle s0 n s).sup = s.sup ∧ (settle s0 n s).maint = s.maint
    ∧ (settle s0 n s).pending = s.pending := by
  simp only [settle]; repeat' split
  all_goals simp

@[simp] theorem settle_port (s0 : State) (n : Nat) (s : State) :
    (settle s0 n s).port.state = s.port.state ∧ (settle s0 n s).port.bitRate = s.port.bitRate
    ∧ (settle s0 n s).port.lastSender = s.port.lastSender ∧ (settle s0 n s).port.idle = s.port.idle
    ∧ (settle s0 n s).port.sync = s.port.sync ∧ (settle s0 n s).port.tx = s.port.tx
    ∧ (settle s0 n s).port.lossCount = s.port.lossCount
    ∧ (settle s0 n s).port.lineFaultTimer = s.port.lineFaultTimer ∧ (settle s0 n s).port.good = s.port.good
    ∧ (settle s0 n s).port.bad = s.port.bad ∧ (settle s0 n s).port.losses = s.port.losses
    ∧ (settle s0 n s).port.lineFaults = s.port.lineFaults ∧ (settle s0 n s).port.firstError = s.port.firstError
    ∧ (settle s0 n s).port.selfTest = s.port.selfTest ∧ (settle s0 n s).port.seconds = s.port.seconds
    ∧ (settle s0 n s).port.muteHeld = s.port.muteHeld := by
  simp only [settle]; repeat' split
  all_goals simp

@[simp] theorem moveChan_frame (s : State) (k : Chan) (c : Channel) :
    (moveChan s k c).ctl = s.ctl ∧ (moveChan s k c).acq = s.acq ∧ (moveChan s k c).port = s.port
    ∧ (moveChan s k c).sched = s.sched ∧ (moveChan s k c).view = s.view ∧ (moveChan s k c).allow = s.allow
    ∧ (moveChan s k c).alloc = s.alloc ∧ (moveChan s k c).arb = s.arb ∧ (moveChan s k c).sup = s.sup
    ∧ (moveChan s k c).maint = s.maint ∧ (moveChan s k c).pending = s.pending := by
  simp [moveChan]

@[simp] theorem enterResting_frame (s : State) (k : Chan) :
    (enterResting s k).ctl = s.ctl ∧ (enterResting s k).acq = s.acq ∧ (enterResting s k).port = s.port
    ∧ (enterResting s k).sched = s.sched ∧ (enterResting s k).view = s.view
    ∧ (enterResting s k).allow = s.allow ∧ (enterResting s k).alloc = s.alloc ∧ (enterResting s k).arb = s.arb
    ∧ (enterResting s k).sup = s.sup ∧ (enterResting s k).maint = s.maint
    ∧ (enterResting s k).pending = s.pending := by
  simp only [enterResting]; repeat' split
  all_goals simp

@[simp] theorem placeByMode_frame (s : State) (k : Chan) :
    (placeByMode s k).ctl = s.ctl ∧ (placeByMode s k).acq = s.acq ∧ (placeByMode s k).port = s.port
    ∧ (placeByMode s k).sched = s.sched ∧ (placeByMode s k).view = s.view ∧ (placeByMode s k).allow = s.allow
    ∧ (placeByMode s k).alloc = s.alloc ∧ (placeByMode s k).arb = s.arb ∧ (placeByMode s k).sup = s.sup
    ∧ (placeByMode s k).maint = s.maint ∧ (placeByMode s k).pending = s.pending := by
  simp only [placeByMode]; repeat' split
  all_goals simp

@[simp] theorem stopOrder_frame (s : State) (k : Chan) :
    (stopOrder s k).ctl = s.ctl ∧ (stopOrder s k).acq = s.acq ∧ (stopOrder s k).port = s.port
    ∧ (stopOrder s k).sched = s.sched ∧ (stopOrder s k).view = s.view ∧ (stopOrder s k).allow = s.allow
    ∧ (stopOrder s k).alloc = s.alloc ∧ (stopOrder s k).arb = s.arb ∧ (stopOrder s k).sup = s.sup
    ∧ (stopOrder s k).maint = s.maint ∧ (stopOrder s k).pending = s.pending := by
  simp only [stopOrder]; repeat' split
  all_goals simp

@[simp] theorem dryRunOrder_frame (s : State) (k : Chan) :
    (dryRunOrder s k).ctl = s.ctl ∧ (dryRunOrder s k).acq = s.acq ∧ (dryRunOrder s k).port = s.port
    ∧ (dryRunOrder s k).sched = s.sched ∧ (dryRunOrder s k).view = s.view ∧ (dryRunOrder s k).allow = s.allow
    ∧ (dryRunOrder s k).alloc = s.alloc ∧ (dryRunOrder s k).arb = s.arb ∧ (dryRunOrder s k).sup = s.sup
    ∧ (dryRunOrder s k).maint = s.maint ∧ (dryRunOrder s k).pending = s.pending := by
  simp only [dryRunOrder]; repeat' split
  all_goals simp

@[simp] theorem backToIdle_frame (s : State) (k : Chan) :
    (backToIdle s k).ctl = s.ctl ∧ (backToIdle s k).acq = s.acq ∧ (backToIdle s k).port = s.port
    ∧ (backToIdle s k).sched = s.sched ∧ (backToIdle s k).view = s.view ∧ (backToIdle s k).allow = s.allow
    ∧ (backToIdle s k).alloc = s.alloc ∧ (backToIdle s k).arb = s.arb ∧ (backToIdle s k).sup = s.sup
    ∧ (backToIdle s k).maint = s.maint ∧ (backToIdle s k).pending = s.pending := by
  simp only [backToIdle]; repeat' split
  all_goals simp

@[simp] theorem startOrder_frame (s : State) (k : Chan) :
    (startOrder s k).ctl = s.ctl ∧ (startOrder s k).acq = s.acq ∧ (startOrder s k).port = s.port
    ∧ (startOrder s k).sched = s.sched ∧ (startOrder s k).view = s.view ∧ (startOrder s k).allow = s.allow
    ∧ (startOrder s k).alloc = s.alloc ∧ (startOrder s k).arb = s.arb ∧ (startOrder s k).sup = s.sup
    ∧ (startOrder s k).maint = s.maint ∧ (startOrder s k).pending = s.pending := by
  simp only [startOrder]; repeat' split
  all_goals simp

@[simp] theorem latchFault_frame (s : State) (k : Chan) (f : FaultKind) :
    (latchFault s k f).ctl = s.ctl ∧ (latchFault s k f).acq = s.acq ∧ (latchFault s k f).port = s.port
    ∧ (latchFault s k f).sched = s.sched ∧ (latchFault s k f).view = s.view
    ∧ (latchFault s k f).allow = s.allow ∧ (latchFault s k f).alloc = s.alloc ∧ (latchFault s k f).arb = s.arb
    ∧ (latchFault s k f).maint = s.maint ∧ (latchFault s k f).pending = s.pending := by
  simp only [latchFault]; repeat' split
  all_goals simp

/-- What a step of each channel keeps, four steps keep. -/
theorem forChans_keeps {P : State → Prop} {f : State → Chan → State} (h : ∀ s k, P s → P (f s k)) (s : State) (hs : P s) :
    P (forChans f s) :=
  h _ _ (h _ _ (h _ _ (h _ _ hs)))

/-- A figure that a step of each channel leaves, four steps leave. -/
theorem forChans_same {α : Type} (g : State → α) {f : State → Chan → State} (h : ∀ s k, g (f s k) = g s) (s : State) :
    g (forChans f s) = g s := by
  simp [forChans, h]

@[simp] theorem latchArrives_frame (s : State) (k : Chan) :
    (latchArrives s k).ctl = s.ctl ∧ (latchArrives s k).acq = s.acq ∧ (latchArrives s k).port = s.port
    ∧ (latchArrives s k).sched = s.sched ∧ (latchArrives s k).view = s.view
    ∧ (latchArrives s k).allow = s.allow ∧ (latchArrives s k).alloc = s.alloc ∧ (latchArrives s k).arb = s.arb
    ∧ (latchArrives s k).maint = s.maint ∧ (latchArrives s k).pending = s.pending := by
  simp only [latchArrives]; repeat' split
  all_goals simp

@[simp] theorem latchesArrive_frame (s : State) :
    (latchesArrive s).ctl = s.ctl ∧ (latchesArrive s).acq = s.acq ∧ (latchesArrive s).allow = s.allow
    ∧ (latchesArrive s).maint = s.maint ∧ (latchesArrive s).pending = s.pending := by
  simp only [latchesArrive, forChans]; split
  all_goals simp

@[simp] theorem latchesArrive_port (s : State) :
    (latchesArrive s).port.state = s.port.state ∧ (latchesArrive s).port.bitRate = s.port.bitRate
    ∧ (latchesArrive s).port.lastSender = s.port.lastSender ∧ (latchesArrive s).port.idle = s.port.idle
    ∧ (latchesArrive s).port.sync = s.port.sync ∧ (latchesArrive s).port.tx = s.port.tx
    ∧ (latchesArrive s).port.lossCount = s.port.lossCount
    ∧ (latchesArrive s).port.lineFaultTimer = s.port.lineFaultTimer ∧ (latchesArrive s).port.good = s.port.good
    ∧ (latchesArrive s).port.bad = s.port.bad ∧ (latchesArrive s).port.losses = s.port.losses
    ∧ (latchesArrive s).port.lineFaults = s.port.lineFaults
    ∧ (latchesArrive s).port.firstError = s.port.firstError ∧ (latchesArrive s).port.selfTest = s.port.selfTest
    ∧ (latchesArrive s).port.seconds = s.port.seconds ∧ (latchesArrive s).port.muteHeld = s.port.muteHeld := by
  simp only [latchesArrive, forChans]; split
  all_goals simp

@[simp] theorem clearFaultLatches_frame (s : State) :
    (clearFaultLatches s).ctl = s.ctl ∧ (clearFaultLatches s).acq = s.acq
    ∧ (clearFaultLatches s).allow = s.allow ∧ (clearFaultLatches s).maint = s.maint
    ∧ (clearFaultLatches s).pending = s.pending := by
  simp only [clearFaultLatches, forChans]; repeat' split
  all_goals simp

@[simp] theorem clearFaultLatches_port (s : State) :
    (clearFaultLatches s).port.state = s.port.state ∧ (clearFaultLatches s).port.bitRate = s.port.bitRate
    ∧ (clearFaultLatches s).port.lastSender = s.port.lastSender ∧ (clearFaultLatches s).port.idle = s.port.idle
    ∧ (clearFaultLatches s).port.sync = s.port.sync ∧ (clearFaultLatches s).port.tx = s.port.tx
    ∧ (clearFaultLatches s).port.lossCount = s.port.lossCount
    ∧ (clearFaultLatches s).port.lineFaultTimer = s.port.lineFaultTimer
    ∧ (clearFaultLatches s).port.good = s.port.good ∧ (clearFaultLatches s).port.bad = s.port.bad
    ∧ (clearFaultLatches s).port.losses = s.port.losses
    ∧ (clearFaultLatches s).port.lineFaults = s.port.lineFaults
    ∧ (clearFaultLatches s).port.firstError = s.port.firstError
    ∧ (clearFaultLatches s).port.selfTest = s.port.selfTest
    ∧ (clearFaultLatches s).port.seconds = s.port.seconds
    ∧ (clearFaultLatches s).port.muteHeld = s.port.muteHeld := by
  simp only [clearFaultLatches, forChans]; repeat' split
  all_goals simp

@[simp] theorem withdrawStart_frame (s : State) (n : OwnNotice) :
    (withdrawStart s n).ctl = s.ctl ∧ (withdrawStart s n).acq = s.acq ∧ (withdrawStart s n).sched = s.sched
    ∧ (withdrawStart s n).view = s.view ∧ (withdrawStart s n).allow = s.allow
    ∧ (withdrawStart s n).alloc = s.alloc ∧ (withdrawStart s n).disp = s.disp ∧ (withdrawStart s n).arb = s.arb
    ∧ (withdrawStart s n).chans = s.chans ∧ (withdrawStart s n).sup = s.sup
    ∧ (withdrawStart s n).maint = s.maint ∧ (withdrawStart s n).pending = s.pending := by
  simp only [withdrawStart]; repeat' split
  all_goals simp

@[simp] theorem withdrawStart_port (s : State) (n : OwnNotice) :
    (withdrawStart s n).port.state = s.port.state ∧ (withdrawStart s n).port.bitRate = s.port.bitRate
    ∧ (withdrawStart s n).port.lastSender = s.port.lastSender ∧ (withdrawStart s n).port.idle = s.port.idle
    ∧ (withdrawStart s n).port.sync = s.port.sync ∧ (withdrawStart s n).port.lossCount = s.port.lossCount
    ∧ (withdrawStart s n).port.lineFaultTimer = s.port.lineFaultTimer
    ∧ (withdrawStart s n).port.good = s.port.good ∧ (withdrawStart s n).port.bad = s.port.bad
    ∧ (withdrawStart s n).port.losses = s.port.losses ∧ (withdrawStart s n).port.lineFaults = s.port.lineFaults
    ∧ (withdrawStart s n).port.firstError = s.port.firstError
    ∧ (withdrawStart s n).port.selfTest = s.port.selfTest ∧ (withdrawStart s n).port.seconds = s.port.seconds
    ∧ (withdrawStart s n).port.muteHeld = s.port.muteHeld := by
  simp only [withdrawStart]; repeat' split
  all_goals simp

@[simp] theorem dropNotice_frame (s : State) :
    (dropNotice s).ctl = s.ctl ∧ (dropNotice s).acq = s.acq ∧ (dropNotice s).sched = s.sched
    ∧ (dropNotice s).view = s.view ∧ (dropNotice s).allow = s.allow ∧ (dropNotice s).alloc = s.alloc
    ∧ (dropNotice s).disp = s.disp ∧ (dropNotice s).chans = s.chans ∧ (dropNotice s).sup = s.sup
    ∧ (dropNotice s).maint = s.maint ∧ (dropNotice s).pending = s.pending := by
  simp only [dropNotice]; repeat' split
  all_goals simp

@[simp] theorem dropNotice_port (s : State) :
    (dropNotice s).port.state = s.port.state ∧ (dropNotice s).port.bitRate = s.port.bitRate
    ∧ (dropNotice s).port.lastSender = s.port.lastSender ∧ (dropNotice s).port.idle = s.port.idle
    ∧ (dropNotice s).port.sync = s.port.sync ∧ (dropNotice s).port.lossCount = s.port.lossCount
    ∧ (dropNotice s).port.lineFaultTimer = s.port.lineFaultTimer ∧ (dropNotice s).port.good = s.port.good
    ∧ (dropNotice s).port.bad = s.port.bad ∧ (dropNotice s).port.losses = s.port.losses
    ∧ (dropNotice s).port.lineFaults = s.port.lineFaults ∧ (dropNotice s).port.firstError = s.port.firstError
    ∧ (dropNotice s).port.selfTest = s.port.selfTest ∧ (dropNotice s).port.seconds = s.port.seconds
    ∧ (dropNotice s).port.muteHeld = s.port.muteHeld := by
  simp only [dropNotice]; repeat' split
  all_goals simp

@[simp] theorem withdrawNotice_frame (s : State) :
    (withdrawNotice s).ctl = s.ctl ∧ (withdrawNotice s).acq = s.acq ∧ (withdrawNotice s).sched = s.sched
    ∧ (withdrawNotice s).view = s.view ∧ (withdrawNotice s).allow = s.allow
    ∧ (withdrawNotice s).alloc = s.alloc ∧ (withdrawNotice s).sup = s.sup ∧ (withdrawNotice s).maint = s.maint
    ∧ (withdrawNotice s).pending = s.pending := by
  simp only [withdrawNotice]; repeat' split
  all_goals simp

@[simp] theorem withdrawNotice_port (s : State) :
    (withdrawNotice s).port.state = s.port.state ∧ (withdrawNotice s).port.bitRate = s.port.bitRate
    ∧ (withdrawNotice s).port.lastSender = s.port.lastSender ∧ (withdrawNotice s).port.idle = s.port.idle
    ∧ (withdrawNotice s).port.sync = s.port.sync ∧ (withdrawNotice s).port.lossCount = s.port.lossCount
    ∧ (withdrawNotice s).port.lineFaultTimer = s.port.lineFaultTimer
    ∧ (withdrawNotice s).port.good = s.port.good ∧ (withdrawNotice s).port.bad = s.port.bad
    ∧ (withdrawNotice s).port.losses = s.port.losses ∧ (withdrawNotice s).port.lineFaults = s.port.lineFaults
    ∧ (withdrawNotice s).port.firstError = s.port.firstError
    ∧ (withdrawNotice s).port.selfTest = s.port.selfTest ∧ (withdrawNotice s).port.seconds = s.port.seconds
    ∧ (withdrawNotice s).port.muteHeld = s.port.muteHeld := by
  simp only [withdrawNotice]; repeat' split
  all_goals simp

@[simp] theorem reportDiscarded_frame (s : State) (b : Bool) (f : Frame) :
    (reportDiscarded s b f).ctl = s.ctl ∧ (reportDiscarded s b f).acq = s.acq
    ∧ (reportDiscarded s b f).allow = s.allow ∧ (reportDiscarded s b f).disp = s.disp
    ∧ (reportDiscarded s b f).chans = s.chans ∧ (reportDiscarded s b f).sup = s.sup
    ∧ (reportDiscarded s b f).maint = s.maint ∧ (reportDiscarded s b f).pending = s.pending := by
  simp only [reportDiscarded]; repeat' split
  all_goals simp

@[simp] theorem reportDiscarded_port (s : State) (b : Bool) (f : Frame) :
    (reportDiscarded s b f).port.state = s.port.state ∧ (reportDiscarded s b f).port.bitRate = s.port.bitRate
    ∧ (reportDiscarded s b f).port.lastSender = s.port.lastSender
    ∧ (reportDiscarded s b f).port.idle = s.port.idle ∧ (reportDiscarded s b f).port.sync = s.port.sync
    ∧ (reportDiscarded s b f).port.tx = s.port.tx ∧ (reportDiscarded s b f).port.lossCount = s.port.lossCount
    ∧ (reportDiscarded s b f).port.lineFaultTimer = s.port.lineFaultTimer
    ∧ (reportDiscarded s b f).port.good = s.port.good ∧ (reportDiscarded s b f).port.bad = s.port.bad
    ∧ (reportDiscarded s b f).port.losses = s.port.losses
    ∧ (reportDiscarded s b f).port.lineFaults = s.port.lineFaults
    ∧ (reportDiscarded s b f).port.firstError = s.port.firstError
    ∧ (reportDiscarded s b f).port.selfTest = s.port.selfTest
    ∧ (reportDiscarded s b f).port.seconds = s.port.seconds
    ∧ (reportDiscarded s b f).port.muteHeld = s.port.muteHeld := by
  simp only [reportDiscarded]; repeat' split
  all_goals simp

@[simp] theorem reportDiscardedIf_frame (s : State) (b : Bool) (f : Option Frame) :
    (reportDiscardedIf s b f).ctl = s.ctl ∧ (reportDiscardedIf s b f).acq = s.acq
    ∧ (reportDiscardedIf s b f).allow = s.allow ∧ (reportDiscardedIf s b f).disp = s.disp
    ∧ (reportDiscardedIf s b f).chans = s.chans ∧ (reportDiscardedIf s b f).sup = s.sup
    ∧ (reportDiscardedIf s b f).maint = s.maint ∧ (reportDiscardedIf s b f).pending = s.pending := by
  simp only [reportDiscardedIf]; repeat' split
  all_goals simp

@[simp] theorem reportDiscardedIf_port (s : State) (b : Bool) (f : Option Frame) :
    (reportDiscardedIf s b f).port.state = s.port.state
    ∧ (reportDiscardedIf s b f).port.bitRate = s.port.bitRate
    ∧ (reportDiscardedIf s b f).port.lastSender = s.port.lastSender
    ∧ (reportDiscardedIf s b f).port.idle = s.port.idle ∧ (reportDiscardedIf s b f).port.sync = s.port.sync
    ∧ (reportDiscardedIf s b f).port.tx = s.port.tx
    ∧ (reportDiscardedIf s b f).port.lossCount = s.port.lossCount
    ∧ (reportDiscardedIf s b f).port.lineFaultTimer = s.port.lineFaultTimer
    ∧ (reportDiscardedIf s b f).port.good = s.port.good ∧ (reportDiscardedIf s b f).port.bad = s.port.bad
    ∧ (reportDiscardedIf s b f).port.losses = s.port.losses
    ∧ (reportDiscardedIf s b f).port.lineFaults = s.port.lineFaults
    ∧ (reportDiscardedIf s b f).port.firstError = s.port.firstError
    ∧ (reportDiscardedIf s b f).port.selfTest = s.port.selfTest
    ∧ (reportDiscardedIf s b f).port.seconds = s.port.seconds
    ∧ (reportDiscardedIf s b f).port.muteHeld = s.port.muteHeld := by
  simp only [reportDiscardedIf]; repeat' split
  all_goals simp

@[simp] theorem leaveActive_frame (s : State) (x : PortState) :
    (leaveActive s x).ctl = s.ctl ∧ (leaveActive s x).acq = s.acq ∧ (leaveActive s x).allow = s.allow
    ∧ (leaveActive s x).disp = s.disp ∧ (leaveActive s x).chans = s.chans ∧ (leaveActive s x).sup = s.sup
    ∧ (leaveActive s x).maint = s.maint ∧ (leaveActive s x).pending = s.pending := by
  simp [leaveActive]

@[simp] theorem leaveActive_port (s : State) (x : PortState) :
    (leaveActive s x).port.bitRate = s.port.bitRate ∧ (leaveActive s x).port.lastSender = s.port.lastSender
    ∧ (leaveActive s x).port.idle = s.port.idle ∧ (leaveActive s x).port.sync = s.port.sync
    ∧ (leaveActive s x).port.lossCount = s.port.lossCount
    ∧ (leaveActive s x).port.lineFaultTimer = s.port.lineFaultTimer ∧ (leaveActive s x).port.good = s.port.good
    ∧ (leaveActive s x).port.bad = s.port.bad ∧ (leaveActive s x).port.losses = s.port.losses
    ∧ (leaveActive s x).port.lineFaults = s.port.lineFaults
    ∧ (leaveActive s x).port.firstError = s.port.firstError ∧ (leaveActive s x).port.selfTest = s.port.selfTest
    ∧ (leaveActive s x).port.seconds = s.port.seconds ∧ (leaveActive s x).port.muteHeld = s.port.muteHeld := by
  simp [leaveActive]

/-- After a departure from ACTIVE the port is in its new state with nothing in transmission (R28). -/
@[simp] theorem leaveActive_state (s : State) (x : PortState) :
    (leaveActive s x).port.state = x ∧ (leaveActive s x).port.tx = none := by
  simp [leaveActive]

@[simp] theorem enterLineFault_frame (s : State) :
    (enterLineFault s).ctl = s.ctl ∧ (enterLineFault s).acq = s.acq ∧ (enterLineFault s).allow = s.allow
    ∧ (enterLineFault s).disp = s.disp ∧ (enterLineFault s).chans = s.chans ∧ (enterLineFault s).sup = s.sup
    ∧ (enterLineFault s).maint = s.maint ∧ (enterLineFault s).pending = s.pending := by
  simp [enterLineFault]

@[simp] theorem enterLineFault_port (s : State) :
    (enterLineFault s).port.bitRate = s.port.bitRate ∧ (enterLineFault s).port.idle = s.port.idle
    ∧ (enterLineFault s).port.sync = s.port.sync ∧ (enterLineFault s).port.good = s.port.good
    ∧ (enterLineFault s).port.bad = s.port.bad ∧ (enterLineFault s).port.losses = s.port.losses
    ∧ (enterLineFault s).port.firstError = s.port.firstError
    ∧ (enterLineFault s).port.selfTest = s.port.selfTest ∧ (enterLineFault s).port.seconds = s.port.seconds
    ∧ (enterLineFault s).port.muteHeld = s.port.muteHeld := by
  simp [enterLineFault]

/-- Entry to LINE_FAULT: counter, timer, loss count and last sender (R25). -/
@[simp] theorem enterLineFault_state (s : State) :
    (enterLineFault s).port.state = .lineFault ∧ (enterLineFault s).port.tx = none
      ∧ (enterLineFault s).port.lineFaults = satInc 65535 s.port.lineFaults
      ∧ (enterLineFault s).port.lineFaultTimer = some 30000 ∧ (enterLineFault s).port.lossCount = 0
      ∧ (enterLineFault s).port.lastSender = none := by
  simp [enterLineFault, Config.counterMax, Config.lineFaultPeriod]

@[simp] theorem enterMute_frame (s : State) :
    (enterMute s).ctl = s.ctl ∧ (enterMute s).acq = s.acq ∧ (enterMute s).allow = s.allow
    ∧ (enterMute s).disp = s.disp ∧ (enterMute s).chans = s.chans ∧ (enterMute s).sup = s.sup
    ∧ (enterMute s).maint = s.maint ∧ (enterMute s).pending = s.pending := by
  simp only [enterMute]; repeat' split
  all_goals simp

@[simp] theorem enterMute_port (s : State) :
    (enterMute s).port.bitRate = s.port.bitRate ∧ (enterMute s).port.lastSender = s.port.lastSender
    ∧ (enterMute s).port.idle = s.port.idle ∧ (enterMute s).port.sync = s.port.sync
    ∧ (enterMute s).port.lossCount = s.port.lossCount ∧ (enterMute s).port.good = s.port.good
    ∧ (enterMute s).port.bad = s.port.bad ∧ (enterMute s).port.losses = s.port.losses
    ∧ (enterMute s).port.lineFaults = s.port.lineFaults ∧ (enterMute s).port.firstError = s.port.firstError
    ∧ (enterMute s).port.selfTest = s.port.selfTest ∧ (enterMute s).port.seconds = s.port.seconds
    ∧ (enterMute s).port.muteHeld = s.port.muteHeld := by
  simp only [enterMute]; repeat' split
  all_goals simp

@[simp] theorem muteOrder_frame (s : State) :
    (muteOrder s).ctl = s.ctl ∧ (muteOrder s).acq = s.acq ∧ (muteOrder s).allow = s.allow
    ∧ (muteOrder s).disp = s.disp ∧ (muteOrder s).chans = s.chans ∧ (muteOrder s).sup = s.sup
    ∧ (muteOrder s).maint = s.maint ∧ (muteOrder s).pending = s.pending := by
  simp only [muteOrder]; repeat' split
  all_goals simp

@[simp] theorem rankStart_frame (s : State) (n : Nat) :
    (rankStart s n).ctl = s.ctl ∧ (rankStart s n).acq = s.acq ∧ (rankStart s n).allow = s.allow
    ∧ (rankStart s n).sup = s.sup ∧ (rankStart s n).maint = s.maint ∧ (rankStart s n).pending = s.pending := by
  simp only [rankStart]; repeat' split
  all_goals simp

@[simp] theorem startRequest_frame (s : State) (k : Chan) :
    (startRequest s k).ctl = s.ctl ∧ (startRequest s k).acq = s.acq ∧ (startRequest s k).sched = s.sched
    ∧ (startRequest s k).view = s.view ∧ (startRequest s k).allow = s.allow
    ∧ (startRequest s k).alloc = s.alloc ∧ (startRequest s k).sup = s.sup ∧ (startRequest s k).maint = s.maint
    ∧ (startRequest s k).pending = s.pending := by
  simp only [startRequest]; repeat' split
  all_goals simp

@[simp] theorem countBad_frame (s : State) (e : ErrorKind) (f : RxFrame) :
    (countBad s e f).ctl = s.ctl ∧ (countBad s e f).acq = s.acq ∧ (countBad s e f).sched = s.sched
    ∧ (countBad s e f).view = s.view ∧ (countBad s e f).allow = s.allow ∧ (countBad s e f).alloc = s.alloc
    ∧ (countBad s e f).disp = s.disp ∧ (countBad s e f).arb = s.arb ∧ (countBad s e f).chans = s.chans
    ∧ (countBad s e f).sup = s.sup ∧ (countBad s e f).maint = s.maint ∧ (countBad s e f).pending = s.pending := by
  simp [countBad]

@[simp] theorem deliver_frame (s : State) (n : Nat) (f : Frame) :
    (deliver s n f).ctl = s.ctl ∧ (deliver s n f).acq = s.acq ∧ (deliver s n f).allow = s.allow
    ∧ (deliver s n f).sup = s.sup ∧ (deliver s n f).maint = s.maint ∧ (deliver s n f).pending = s.pending := by
  simp only [deliver]; repeat' split
  all_goals simp

@[simp] theorem lossesEnd_frame (b : Bool) (s : State) :
    (lossesEnd b s).ctl = s.ctl ∧ (lossesEnd b s).acq = s.acq ∧ (lossesEnd b s).allow = s.allow
    ∧ (lossesEnd b s).sup = s.sup ∧ (lossesEnd b s).maint = s.maint ∧ (lossesEnd b s).pending = s.pending := by
  simp only [lossesEnd]; repeat' split
  all_goals simp

@[simp] theorem receiveFrame_frame (s : State) (f : RxFrame) :
    (receiveFrame s f).ctl = s.ctl ∧ (receiveFrame s f).acq = s.acq ∧ (receiveFrame s f).allow = s.allow
    ∧ (receiveFrame s f).sup = s.sup ∧ (receiveFrame s f).maint = s.maint
    ∧ (receiveFrame s f).pending = s.pending := by
  simp only [receiveFrame]; repeat' split
  all_goals simp

@[simp] theorem cutFrame_frame (s : State) (f : Option RxFrame) :
    (cutFrame s f).ctl = s.ctl ∧ (cutFrame s f).acq = s.acq ∧ (cutFrame s f).sched = s.sched
    ∧ (cutFrame s f).view = s.view ∧ (cutFrame s f).allow = s.allow ∧ (cutFrame s f).alloc = s.alloc
    ∧ (cutFrame s f).disp = s.disp ∧ (cutFrame s f).arb = s.arb ∧ (cutFrame s f).chans = s.chans
    ∧ (cutFrame s f).sup = s.sup ∧ (cutFrame s f).maint = s.maint ∧ (cutFrame s f).pending = s.pending := by
  simp only [cutFrame]; repeat' split
  all_goals simp

@[simp] theorem placeAtJoining_frame (s : State) (k : Chan) :
    (placeAtJoining s k).ctl = s.ctl ∧ (placeAtJoining s k).acq = s.acq ∧ (placeAtJoining s k).port = s.port
    ∧ (placeAtJoining s k).sched = s.sched ∧ (placeAtJoining s k).view = s.view
    ∧ (placeAtJoining s k).allow = s.allow ∧ (placeAtJoining s k).alloc = s.alloc
    ∧ (placeAtJoining s k).arb = s.arb ∧ (placeAtJoining s k).sup = s.sup
    ∧ (placeAtJoining s k).maint = s.maint ∧ (placeAtJoining s k).pending = s.pending := by
  simp only [placeAtJoining]; repeat' split
  all_goals simp

@[simp] theorem enterJoining_frame (s : State) :
    (enterJoining s).ctl = s.ctl ∧ (enterJoining s).acq = s.acq ∧ (enterJoining s).allow = s.allow
    ∧ (enterJoining s).sup = s.sup ∧ (enterJoining s).maint = s.maint ∧ (enterJoining s).pending = s.pending := by
  simp [enterJoining, forChans]

@[simp] theorem acceptConfig_frame (s : State) (c : StationConfig) :
    (acceptConfig s c).acq = s.acq ∧ (acceptConfig s c).sched = s.sched ∧ (acceptConfig s c).arb = s.arb
    ∧ (acceptConfig s c).sup = s.sup ∧ (acceptConfig s c).maint = s.maint
    ∧ (acceptConfig s c).pending = s.pending := by
  simp [acceptConfig]

@[simp] theorem judgeImage_frame (s : State) (l : List Byte) :
    (judgeImage s l).acq = s.acq ∧ (judgeImage s l).sched = s.sched ∧ (judgeImage s l).arb = s.arb
    ∧ (judgeImage s l).sup = s.sup ∧ (judgeImage s l).maint = s.maint ∧ (judgeImage s l).pending = s.pending := by
  simp only [judgeImage]; repeat' split
  all_goals simp

/-- What an acceptance does to a channel: one that is not fitted loses mode and SELECTOR flag (R137). -/
@[simp] theorem acceptConfig_chan (s : State) (c : StationConfig) (k : Chan) :
    (acceptConfig s c).chan k =
      if (quadGet c.pumps k).fitted then s.chan k else { s.chan k with mode := none, selector := false } := by
  cases k <;> rfl

/-! ## The serial memory (R176) -/

/-- Eight bits, most significant first, are read as the byte they were taken from. -/
theorem byteOfBits_msb (b : Byte) : byteOfBits ([7, 6, 5, 4, 3, 2, 1, 0].map fun i => b.getLsbD i) = b := by
  revert b; decide +kernel

/-- Bytes sent most significant bit first are clocked in as they were. -/
theorem bytesIn_msbBits (l : List Byte) : bytesIn l.length (msbBits l) = l := by
  induction l with
  | nil => rfl
  | cons b l ih =>
    have h := byteOfBits_msb b
    simp only [msbBits, List.flatMap_cons, List.length_cons, bytesIn, List.map_cons, List.map_nil, List.cons_append,
      List.nil_append, List.take_succ_cons, List.take_zero, List.drop_succ_cons, List.drop_zero] at h ih ⊢
    rw [h, ih]

/-- A memory of 128 bytes is clocked in whole (R176). -/
theorem clockedIn_msbBits (l : List Byte) (h : l.length = 128) : clockedIn (msbBits l) = l := by
  have := bytesIn_msbBits l
  rwa [h] at this

/-! ## What settling leaves formed -/

/-- A moved channel leaves the hand-running set, or is judged for it at its entry to LOCAL (R102). -/
theorem moveChan_hand (s : State) (k : Chan) (c : Channel) :
    (moveChan s k c).disp.hand = quadSet s.disp.hand k (c.state == some .inLocal && handJudged s k) := by
  cases k <;> rfl

/-- Reading a channel after one has been moved. -/
theorem moveChan_chan (s : State) (j k : Chan) (c : Channel) :
    (moveChan s k c).chan j = if j = k then c else s.chan j := by
  simp only [moveChan, State.setDisp_chan, State.setChan_chan]

end Sys2Proof.Machine
end

