-- ==== Sys2Proof/Laws/Effects.lean ====
section
/-! SUPPORT. What the shared operations do, once for each: the end of an event (`settle`), the channel moves, the own
notice, the departures of the port, and one record of the peer view. Later proofs cite these and unfold no operation. -/

namespace Sys2Proof.Machine

/-! ## Figures -/

/-- A full-width reading of the estimated discharge. -/
theorem atSpeed_eq (q n : Nat) : atSpeed q n = q * n / 1022 := rfl

/-- After `reform` the four station figures are those of the channels (R103, R106). -/
theorem reform_formed (s : State) : FiguresFormed (reform s) :=
  ⟨rfl, rfl, rfl, rfl⟩

/-- Forming the speed target leaves every figure but n_t. -/
theorem formNt_disp (s : State) : (formNt s).disp = { s.disp with nt := (formNt s).disp.nt } := by
  simp only [formNt]; repeat' split
  all_goals simp

/-- While no channel is RUNNING the speed target keeps its value (R111). -/
theorem formNt_idle (s : State) (h : ∀ k, s.isIn k .running = false) : formNt s = s := by
  simp [formNt, anyChan, h]

/-- A state whose channels, configuration and dispatch figures (n_t apart) agree with a formed one is formed. -/
theorem FiguresFormed.congr {s t : State} (h : FiguresFormed s) (hc : t.chans = s.chans) (hf : t.ctl = s.ctl)
    (hd : t.disp = { s.disp with nt := t.disp.nt }) : FiguresFormed t := by
  have e1 : t.qmax = s.qmax := by
    funext k
    simp only [State.qmax, State.fitted, State.pump, State.cfg, hf]
    rw [hd]; rfl
  have e2 : t.chan = s.chan := by funext k; simp only [State.chan, hc]
  have e3 : t.pump = s.pump := by funext k; simp only [State.pump, State.cfg, hf]
  have e4 : t.inR = s.inR := by funext k; simp only [State.inR, State.isIn, State.chanState, State.chan, hc]
  have e5 : t.turning = s.turning := by
    funext k; simp only [State.turning, e4, State.isIn, State.chanState, State.chan, hc]
  obtain ⟨a, b, c, d⟩ := h
  constructor
  · rw [hd, e1, e4]; exact a
  · rw [hd, e1, e2, e5]; exact b
  · rw [hd, e1]; exact c
  · rw [hd, e3, e5]; exact d

/-! ## The end of an event -/

/-- What `settle` leaves in the dispatch unit: the figures formed anew, and n_t formed where it is due. -/
theorem settle_disp (s0 : State) (n : Nat) (s : State) :
    (settle s0 n s).disp =
      (if speedTargetDue s0 (reform s) then formNt (reform s) else reform s).disp := by
  simp only [settle]; repeat' split
  all_goals simp

/-- The dispatch figures that no settling touches. -/
@[simp] theorem settle_disp_kept (s0 : State) (n : Nat) (s : State) :
    (settle s0 n s).disp.rotation = s.disp.rotation ∧ (settle s0 n s).disp.table = s.disp.table
    ∧ (settle s0 n s).disp.hand = s.disp.hand ∧ (settle s0 n s).disp.lockout = s.disp.lockout
    ∧ (settle s0 n s).disp.slewTimer = s.disp.slewTimer ∧ (settle s0 n s).disp.instPower = s.disp.instPower
    ∧ (settle s0 n s).disp.crun = crunOf s ∧ (settle s0 n s).disp.eHand = eHandOf s := by
  rw [settle_disp]
  split
  · rw [formNt_disp]; simp [reform]
  · simp [reform]

/-- After `settle` the four station figures are those of the channels. -/
theorem settle_formed (s0 : State) (n : Nat) (s : State) : FiguresFormed (settle s0 n s) := by
  refine (reform_formed s).congr (by simp) (by simp) ?_
  rw [settle_disp]
  split
  · exact formNt_disp _
  · rfl

/-- Without a RUNNING channel n_t keeps its value through `settle` (R111). -/
theorem settle_nt_idle (s0 : State) (n : Nat) (s : State) (h : ∀ k, s.isIn k .running = false) :
    (settle s0 n s).disp.nt = s.disp.nt := by
  rw [settle_disp, formNt_idle _ (by simpa [reform] using h)]
  split <;> simp [reform]

/-- Forming the figures moves no channel, so n_t is due after it as before it. -/
@[simp] theorem speedTargetDue_reform (s0 s : State) : speedTargetDue s0 (reform s) = speedTargetDue s0 s := rfl

/-- Prompt causes move nothing in a station that composes no reports. -/
theorem promptCauses_silent (n : Nat) (s : State) (h : s.reporting = false) : promptCauses n s = s := by
  induction n with
  | zero => rfl
  | succ n ih => simp [promptCauses, promptCause, h, ih]

/-- The QUIT test acts in LEAVING alone (R55). -/
theorem quitTest_elsewhere (s : State) (h : s.sched.coord ≠ some .leaving) : quitTest s = s := by
  simp [quitTest, h]

/-- The QUIT test clears at most the allocation timer of the allocation unit. -/
theorem quitTest_alloc (s : State) : (quitTest s).alloc = { s.alloc with timer := (quitTest s).alloc.timer } := by
  simp only [quitTest, offerQuit, quitEnded, enterLeft]; repeat' split
  all_goals simp

/-- The QUIT test of a station without a notice leaves the arbiter as it is. -/
theorem quitTest_arb (s : State) (h : s.arb.notice = none) : (quitTest s).arb = s.arb := by
  simp only [quitTest, offerQuit, quitEnded, enterLeft, startEnded]; repeat' split
  all_goals simp_all

/-- The QUIT test advances no START number. -/
theorem quitTest_counter (s : State) : (quitTest s).arb.counter = s.arb.counter := by
  simp only [quitTest, offerQuit, quitEnded, enterLeft, startEnded, startHoldOff]; repeat' split
  all_goals simp

/-- Settling moves nothing but the allocation timer of the allocation unit. -/
theorem settle_alloc (s0 : State) (n : Nat) (s : State) :
    (settle s0 n s).alloc = { s.alloc with timer := (settle s0 n s).alloc.timer } := by
  simp only [settle]; repeat' split
  all_goals (try rw [quitTest_alloc]); all_goals simp

/-- Settling a station without a notice leaves the arbiter as it is. -/
theorem settle_arb (s0 : State) (n : Nat) (s : State) (h : s.arb.notice = none) : (settle s0 n s).arb = s.arb := by
  simp only [settle]; repeat' split
  all_goals (try rw [quitTest_arb _ (by simp [h])]); all_goals simp

/-- Settling advances no START number. -/
@[simp] theorem settle_counter (s0 : State) (n : Nat) (s : State) :
    (settle s0 n s).arb.counter = s.arb.counter := by
  simp only [settle]; repeat' split
  all_goals (try rw [quitTest_counter]); all_goals simp

/-- Settling a station that composes no reports touches the dispatch figures alone. -/
theorem settle_silent (s0 : State) (n : Nat) (s : State) (h : s.reporting = false) :
    settle s0 n s = s.setDisp (settle s0 n s).disp := by
  have hq : ∀ x : State, x.sched = s.sched → quitTest x = x := by
    intro x hx; apply quitTest_elsewhere; rw [hx]; intro hl; simp [State.reporting, hl] at h
  have hp : ∀ m, ∀ x : State, x.sched = s.sched → promptCauses m x = x := by
    intro m x hx; apply promptCauses_silent; simpa [State.reporting, hx] using h
  have key : ∀ x : State, (∃ d, x = s.setDisp d) → x = s.setDisp x.disp := by
    rintro x ⟨d, rfl⟩; rfl
  apply key
  simp only [settle]
  have hf : (formNt (reform s)).sched = s.sched := by simp
  have hr : (reform s).sched = s.sched := by simp
  have h1 : ∃ d, formNt (reform s) = s.setDisp d := by
    simp only [formNt]; split
    · exact ⟨_, rfl⟩
    · exact ⟨_, rfl⟩
  repeat' split
  all_goals (try rw [hp _ _ (by simp)])
  all_goals (try rw [hq _ (by simp)])
  all_goals first | exact h1 | exact ⟨_, rfl⟩

/-- Settling a COORDINATING station leaves its coordination state, its allocation unit and its notice. -/
theorem settle_coordinating (s0 : State) (n : Nat) (s : State) (h : s.sched.coord = some .coordinating) :
    (settle s0 n s).sched.coord = some .coordinating ∧ (settle s0 n s).alloc = s.alloc
    ∧ (settle s0 n s).arb = s.arb := by
  have hq : ∀ x : State, x.sched.coord = some .coordinating → quitTest x = x := by
    intro x hx; apply quitTest_elsewhere; simp [hx]
  simp only [settle]; repeat' split
  all_goals (try rw [hq _ (by simp [h])])
  all_goals simp [h]

/-- Settling a COORDINATING station whose E_hand stands, without a cause of its own, touches the dispatch figures alone. -/
theorem settle_quiet (s0 s : State) (h : s.sched.coord = some .coordinating) (he : s0.disp.eHand = eHandOf s) :
    settle s0 0 s = s.setDisp (settle s0 0 s).disp := by
  have hq : ∀ x : State, x.sched.coord = some .coordinating → quitTest x = x := by
    intro x hx; apply quitTest_elsewhere; simp [hx]
  have key : ∀ x : State, (∃ d, x = s.setDisp d) → x = s.setDisp x.disp := by
    rintro x ⟨d, rfl⟩; rfl
  have e1 : (reform s).disp.eHand = eHandOf s := by simp [reform]
  have e2 : (formNt (reform s)).disp.eHand = eHandOf s := by rw [formNt_disp]; exact e1
  have h1 : ∃ d, formNt (reform s) = s.setDisp d := by
    simp only [formNt]; split
    · exact ⟨_, rfl⟩
    · exact ⟨_, rfl⟩
  apply key
  have hr : (reform s).sched.coord = some .coordinating := by simp [h]
  have hf : (formNt (reform s)).sched.coord = some .coordinating := by simp [h]
  simp only [settle]
  repeat' split
  all_goals first
    | (rename_i hh; simp [e1, e2, he] at hh; done)
    | simp only [promptCauses]
  all_goals (try rw [hq _ hr])
  all_goals (try rw [hq _ hf])
  all_goals first | exact h1 | exact ⟨_, rfl⟩

/-! ## The QUIT test (R55) -/

/-- A prompt cause offers no QUIT and touches no queued START or QUIT. -/
theorem promptCauses_quit (n : Nat) (s : State) :
    (promptCauses n s).sched.quitOffered = s.sched.quitOffered ∧ (promptCauses n s).port.queue.quit = s.port.queue.quit := by
  induction n generalizing s with
  | zero => exact ⟨rfl, rfl⟩
  | succ n ih =>
    simp only [promptCauses]; rw [(ih _).1, (ih _).2]
    simp only [promptCause, composeStage, offerStage]; repeat' split
    all_goals simp

/-- The QUIT condition says that no channel turns and that E_hand is 0 (R55). -/
theorem quitCondition_iff (s : State) : quitCondition s = true ↔ (∀ k, s.turning k = false) ∧ s.disp.eHand = 0 := by
  simp only [quitCondition, anyChan, Bool.and_eq_true, Bool.not_eq_true', Bool.or_eq_false_iff, beq_iff_eq]
  exact and_congr_left' ⟨fun h k => by cases k <;> simp_all, fun h => ⟨⟨⟨h _, h _⟩, h _⟩, h _⟩⟩

/-- What the QUIT test does when it holds (R46, R53, R55, R56). -/
theorem quitTest_offers (s : State) (hc : s.sched.coord = some .leaving) (hq : quitCondition s = true)
    (ho : s.sched.quitOffered = false) :
    (s.port.state = .active → (quitTest s).sched.coord = some .leaving ∧ (quitTest s).sched.quitOffered = true ∧
      (quitTest s).port.queue.quit = some ⟨1, ((quitTest s).sched.counter + 255) % 256⟩ ∧
      (quitTest s).port.queue.start = none) ∧
    (s.port.state ≠ .active → (quitTest s).sched.coord = some .left ∧ (quitTest s).sched.quitOffered = false ∧
      (quitTest s).sched.reportTimer = none ∧ (quitTest s).sched.spacingTimer = none ∧
      (quitTest s).sched.prompt = false ∧ (quitTest s).alloc.timer = none) := by
  simp only [quitTest, hc, hq, ho, and_self, if_true]
  constructor <;> intro h
  · simp only [offerQuit, State.setSched_port, h, if_true]; split <;> simp [hc]
  · simp [offerQuit, h, quitEnded, hc, enterLeft]

/-- Channels and dispatch figures stand at a QUIT test. -/
theorem quitTest_stands (s : State) : (quitTest s).chans = s.chans ∧ (quitTest s).disp = s.disp := by
  simp only [quitTest, offerQuit, quitEnded, enterLeft]; repeat' split
  all_goals simp

/-- A QUIT test that does not hold changes nothing. -/
theorem quitTest_still (s : State) (h : quitCondition s = false ∨ s.sched.quitOffered = true) : quitTest s = s := by
  rcases h with h | h <;> simp [quitTest, h]

/-- The largest of the four channels' figures is the figure of one of them. -/
theorem max_attained (f : Chan → Nat) : ∃ j, f j = max (max (f .p1) (f .p2)) (max (f .p3) (f .p4)) := by
  rcases max_choice (f .p1) (f .p2) with h1 | h1 <;> rcases max_choice (f .p3) (f .p4) with h2 | h2 <;> rw [h1, h2]
  · rcases max_choice (f .p1) (f .p3) with h | h <;> exact ⟨_, h.symm⟩
  · rcases max_choice (f .p1) (f .p4) with h | h <;> exact ⟨_, h.symm⟩
  · rcases max_choice (f .p2) (f .p3) with h | h <;> exact ⟨_, h.symm⟩
  · rcases max_choice (f .p2) (f .p4) with h | h <;> exact ⟨_, h.symm⟩

/-- n_lo is the largest nmin among the RUNNING channels (R111). -/
theorem nLo_largest (s : State) (h : ∃ j, s.isIn j .running = true) :
    (∀ j, s.isIn j .running = true → (s.pump j).nmin ≤ nLo s) ∧ ∃ j, s.isIn j .running = true ∧ (s.pump j).nmin = nLo s := by
  have le : ∀ j, (if s.isIn j .running then (s.pump j).nmin else 0) ≤ nLo s := by
    intro j; simp only [nLo]; cases j <;> omega
  refine ⟨fun j hj => by have := le j; rwa [if_pos hj] at this, ?_⟩
  obtain ⟨i, hi⟩ := h
  obtain ⟨j, hj⟩ := max_attained fun k => if s.isIn k .running then (s.pump k).nmin else 0
  change _ = nLo s at hj
  by_cases hr : s.isIn j .running = true
  · exact ⟨j, hr, by rwa [if_pos hr] at hj⟩
  · rw [if_neg hr] at hj
    have := le i
    rw [if_pos hi, ← hj] at this
    exact ⟨i, hi, by omega⟩

/-- A turning channel holds the QUIT test back, so settling then keeps the allocation unit. -/
theorem settle_alloc_turning (s0 : State) (n : Nat) (s : State) (h : ∃ j, s.turning j = true) :
    (settle s0 n s).alloc = s.alloc := by
  obtain ⟨j, hj⟩ := h
  have hold : ∀ m, ∀ u : State, u.chans = s.chans → quitTest (promptCauses m u) = promptCauses m u := by
    intro m u hu
    apply quitTest_still; left
    rw [← Bool.not_eq_true, quitCondition_iff]
    intro c
    have := c.1 j
    simp_all [State.turning, State.inR, State.isIn, State.chanState, State.chan]
  simp only [settle]
  repeat' split
  all_goals (try rw [hold _ _ (by simp [reform])])
  all_goals simp [reform]

/-- Where n_t is due, `settle` leaves it formed for the channels as they stand, and kept while none is RUNNING (R111, R163). -/
theorem settle_speedTarget (s0 : State) (n : Nat) (s : State) (h : speedTargetDue s0 s = true) :
    SpeedTargetFormed s (settle s0 n s) := by
  have hi : ∀ j x, (settle s0 n s).isIn j x = s.isIn j x := fun j x => by
    simp [State.isIn, State.chanState, State.chan]
  have hp : ∀ j, (settle s0 n s).pump j = s.pump j := fun j => by simp [State.pump, State.cfg]
  constructor
  · simp only [hi, hp]
    rintro ⟨j, hj⟩
    refine ⟨nLo s, (nLo_largest s ⟨j, hj⟩).1, (nLo_largest s ⟨j, hj⟩).2, ?_⟩
    rw [settle_alloc_turning _ _ _ ⟨j, by simp [State.turning, State.inR, hj]⟩, (settle_disp_kept s0 n s).2.2.2.2.2.2.1, settle_disp,
      if_pos (by simpa using h)]
    have any : (anyChan fun k => (reform s).isIn k .running) = true := by
      have : (reform s).isIn j .running = true := hj
      cases j <;> simp_all [anyChan]
    simp only [formNt, any, if_true]
    rfl
  · simp only [hi]
    exact settle_nt_idle s0 n s

/-- Settling makes the QUIT test on an occasion, after the prompt causes (R55). -/
theorem settle_quitTested (s0 : State) (n : Nat) (s : State) (hc : s.sched.coord = s0.sched.coord)
    (ho : s.sched.quitOffered = s0.sched.quitOffered) (hp : s.port.state = s0.port.state)
    (hq : s.port.queue.quit = s0.port.queue.quit) : QuitTested s0 (settle s0 n s) := by
  have key : ∃ u : State, settle s0 n s = (if quitOccasion s0 u then quitTest u else u) ∧ u.sched.coord = s0.sched.coord ∧
      u.sched.quitOffered = s0.sched.quitOffered ∧ u.port.state = s0.port.state ∧
      u.port.queue.quit = s0.port.queue.quit := by
    simp only [settle]
    generalize hu : (if speedTargetDue s0 (reform s) then formNt (reform s) else reform s) = u
    have e : u.sched = s.sched ∧ u.port = s.port := by subst hu; split <;> simp
    refine ⟨promptCauses (n + if (s0.disp.eHand != u.disp.eHand) = true then 1 else 0) u, ?_, ?_, ?_, ?_, ?_⟩
    · have : quitOccasion s0 (promptCauses (n + if (s0.disp.eHand != u.disp.eHand) = true then 1 else 0) u)
          = quitOccasion s0 u := by
        have e : ∀ m, (promptCauses m u).chanState = u.chanState := fun m => by
          funext k; simp only [State.chanState, State.chan, (promptCauses_frame m u).2.2.2.2.2.2.1]
        simp [quitOccasion, chanStates, e]
      rw [this]
    · simp [e.1, hc]
    · rw [(promptCauses_quit _ _).1, e.1, ho]
    · simp [e.2, hp]
    · rw [(promptCauses_quit _ _).2, e.2, hq]
  obtain ⟨u, hu, uc, uo, up, uq⟩ := key
  have st : (settle s0 n s).chans = u.chans ∧ (settle s0 n s).disp = u.disp := by
    rw [hu]; split
    · exact quitTest_stands u
    · exact ⟨rfl, rfl⟩
  have cs : ∀ k, (settle s0 n s).chanState k = u.chanState k := fun k => by
    simp only [State.chanState, State.chan, st.1]
  have tu : ∀ k, (settle s0 n s).turning k = u.turning k := fun k => by
    simp [State.turning, State.inR, State.isIn, cs]
  have occ : quitOccasion s0 u = true ↔ (∃ k, u.chanState k ≠ s0.chanState k) ∨ u.disp.eHand ≠ s0.disp.eHand := by
    have : chanStates s0 = chanStates u ↔ ∀ k, u.chanState k = s0.chanState k := by
      simp only [chanStates, quadOf, Quad.mk.injEq]
      exact ⟨fun h k => by cases k <;> simp_all, fun h => by simp [h]⟩
    simp only [quitOccasion, Bool.or_eq_true, bne_iff_ne, ne_eq, this, not_forall]
    rw [eq_comm (a := s0.disp.eHand)]
  constructor
  · intro h1 h2 h3 h4 h5
    simp only [cs, tu, st.2] at h3 h4 h5
    rw [hu, if_pos (occ.2 h3), ← up]
    exact quitTest_offers u (uc.trans h1) ((quitCondition_iff u).2 ⟨h4, h5⟩) (uo.trans h2)
  · intro h1 h2
    simp only [cs, tu, st.2] at h2
    have : settle s0 n s = u := by
      rw [hu]; split
      · rename_i ho; apply quitTest_still
        rcases h2 with h | ⟨k, h⟩ | h | h
        · exact absurd h.2 (by rcases occ.1 ho with ⟨k, hk⟩ | hk; exact absurd (h.1 k) hk; exact hk)
        · left; rw [← Bool.not_eq_true, quitCondition_iff]; intro c; simp [c.1 k] at h
        · left; rw [← Bool.not_eq_true, quitCondition_iff]; intro c; exact h c.2
        · right; rw [uo, h]
      · rfl
    rw [this]; exact ⟨uc.trans h1, uo, uq⟩

/-! ## Latches on their way (R162; log entry 33) -/

/-- A line of spaces has no words. -/
theorem wordsOf_blank (l : List Byte) (h : l.all (· == charSpace) = true) : wordsOf l = [] := by
  unfold wordsOf
  induction l with
  | nil => simp [splitWords]
  | cons c l ih => simp_all [splitWords]

/-- A line of spaces spells no request. -/
theorem readLine_blank (bad : Bool) (l : List Byte) (h : l.all (· == charSpace) = true) : readLine bad l = .syntaxError := by
  simp [readLine, wordsOf_blank l h, readRequest]

/-- An event that has a CLEAR FAULTS executed clears the latches and answers OK; it changes the maintenance port besides. -/
theorem executesClear_exec (s : State) (c : Instr) (h : executesClear s c = true) :
    ∃ m, exec c s = .next (respond (clearFaultLatches (s.setMaint m)) .ok) := by
  unfold executesClear at h
  split at h
  case h_1 =>
    exact ⟨s.maint, by
      simp_all [exec, execClearFaults, submitRequest, submitLine, executeLine, execute, State.setMaint]⟩
  case h_2 c stopLow =>
    simp only [Bool.and_eq_true, beq_iff_eq] at h
    obtain ⟨⟨⟨⟨hp, hh⟩, hr⟩, rfl⟩, hl⟩ := h
    have hs : stopLow = false := by
      cases stopLow
      · rfl
      · simp [readLine] at hl
    have hb : s.maint.buffer.all (· == charSpace) = false := by
      by_contra hb
      rw [readLine_blank _ _ (by simpa using hb)] at hl
      cases hl
    subst hs
    refine ⟨{ s.maint with buffer := [], badLine := false }, ?_⟩
    simp_all [exec, execCharacterReceived, completeLine, submitLine, executeLine, execute]
  case h_3 =>
    exact ⟨{ s.maint with held := none, response := none }, by
      simp_all [exec, execResponseEnd, executeLine, execute]⟩
  case h_4 => simp at h

/-- With no latch on its way nothing arrives. -/
theorem latchesArrive_none (s : State) (h : NoneOffered s) : latchesArrive s = s := if_pos h

/-- An offered latch either reaches its channel at once, or waits for an event next in the queue that meets it. -/
theorem offerLatch_cases (s : State) (k : Chan) (kind : FaultKind) :
    (s.latchWaits k = false ∧ offerLatch s k kind = latchFault s k kind) ∨
      (∃ c rest, s.pending = c :: rest ∧ meetsLatch s k c = true ∧
        offerLatch s k kind = s.setSup { s.sup with offered := quadSet s.sup.offered k (some kind) }) := by
  unfold offerLatch
  split
  case isFalse h => exact .inl ⟨by simpa using h, rfl⟩
  case isTrue h =>
    right
    unfold State.latchWaits at h
    split at h
    case h_1 c rest hp => exact ⟨c, rest, hp, (Bool.and_eq_true_iff.mp h).1, rfl⟩
    case h_2 => simp at h

/-- After the arrival no latch is on its way. -/
theorem latchesArrive_gone (s : State) : NoneOffered (latchesArrive s) := by
  unfold latchesArrive; split
  · assumption
  · simp [NoneOffered]

/-! ## Channel moves -/

/-- A channel that is parked stands without outputs (R140). -/
theorem parked_off (c : Channel) (x : ChanState) : (parked c x).Off x := ⟨rfl, rfl, rfl, rfl⟩

/-- Which state a moved channel is in. -/
theorem moveChan_isIn (s : State) (j k : Chan) (c : Channel) (x : ChanState) :
    (moveChan s k c).isIn j x = if j = k then c.state == some x else s.isIn j x := by
  simp only [State.isIn, State.chanState, moveChan_chan]; split <;> rfl

/-- The rotation list, the table, the lockout and n_t are no concern of a channel's move. -/
@[simp] theorem moveChan_disp (s : State) (k : Chan) (c : Channel) :
    (moveChan s k c).disp.rotation = s.disp.rotation ∧ (moveChan s k c).disp.table = s.disp.table
    ∧ (moveChan s k c).disp.lockout = s.disp.lockout ∧ (moveChan s k c).disp.nt = s.disp.nt
    ∧ (moveChan s k c).disp.crun = s.disp.crun ∧ (moveChan s k c).disp.eHand = s.disp.eHand
    ∧ (moveChan s k c).disp.slewTimer = s.disp.slewTimer ∧ (moveChan s k c).disp.eAuto = s.disp.eAuto
    ∧ (moveChan s k c).disp.runPower = s.disp.runPower ∧ (moveChan s k c).disp.instPower = s.disp.instPower := by
  simp [moveChan]

/-- An entry to RESTING: a full rest, or IDLE at once with T_rest 0 (R102, R144); the other channels stand. -/
theorem enterResting_chan (s : State) (k : Chan) :
    Rested s (enterResting s k) k ∧ ∀ j, j ≠ k → (enterResting s k).chan j = s.chan j := by
  simp only [Rested, enterResting]
  split <;> simp +contextual [moveChan_chan, moveChan_hand, parked, Channel.Off.mk]

/-- A placement by mode (R102, R152, R153); the other channels stand. -/
theorem placeByMode_chan (s : State) (k : Chan) :
    Placed s (placeByMode s k) k (s.chan k).mode ∧ ∀ j, j ≠ k → (placeByMode s k).chan j = s.chan j := by
  simp only [placeByMode]
  split <;> rename_i h <;> simp only [Placed, h]
  · exact enterResting_chan s k
  · refine ⟨⟨?_, ?_, ?_⟩, fun j hj => by simp [moveChan_chan, hj]⟩
    · simp [moveChan_chan, parked_off]
    · simp [moveChan_chan, parked]
    · simp only [HandJudged, moveChan_hand, quadGet_quadSet_same, parked, handJudged]
      split <;> simp_all
  · simp +contextual [moveChan_chan, moveChan_hand, parked, Channel.Off.mk]
  · simp

/-- A stop order: STARTING and RUNNING go to STOPPING, anything else stands (R117). -/
theorem stopOrder_chan (s : State) (j k : Chan) :
    (stopOrder s k).chan j =
      if j = k ∧ s.inR k = true then { s.chan k with state := some .stopping, window := none } else s.chan j := by
  simp only [stopOrder]; split <;> simp_all [moveChan_chan]

/-- An order back to IDLE: taken in NOTICE alone (R146). -/
theorem backToIdle_chan (s : State) (j k : Chan) :
    (backToIdle s k).chan j =
      if j = k ∧ s.isIn k .notice = true then parked (s.chan k) .idle else s.chan j := by
  simp only [backToIdle]; split <;> simp_all [moveChan_chan]

/-- A dry-run order: a turning channel goes to its rest (R117, R150), anything else stands. -/
theorem dryRunOrder_chan (s : State) (k : Chan) :
    (s.turning k = true → Rested s (dryRunOrder s k) k) ∧ (s.turning k = false → dryRunOrder s k = s)
    ∧ ∀ j, j ≠ k → (dryRunOrder s k).chan j = s.chan j := by
  refine ⟨?_, ?_, ?_⟩
  · intro h; simp only [dryRunOrder, h, if_true]; exact (enterResting_chan s k).1
  · intro h; simp [dryRunOrder, h]
  · intro j h; simp only [dryRunOrder]; split
    · exact (enterResting_chan s k).2 j h
    · rfl

/-- The channels' orders leave the rotation list, the table, the lockout and n_t. -/
@[simp] theorem orders_disp (s : State) (k : Chan) :
    (enterResting s k).disp.rotation = s.disp.rotation ∧ (enterResting s k).disp.table = s.disp.table
    ∧ (enterResting s k).disp.lockout = s.disp.lockout ∧ (enterResting s k).disp.nt = s.disp.nt
    ∧ (stopOrder s k).disp.rotation = s.disp.rotation ∧ (stopOrder s k).disp.table = s.disp.table
    ∧ (stopOrder s k).disp.lockout = s.disp.lockout ∧ (stopOrder s k).disp.nt = s.disp.nt
    ∧ (backToIdle s k).disp.rotation = s.disp.rotation ∧ (backToIdle s k).disp.table = s.disp.table
    ∧ (backToIdle s k).disp.lockout = s.disp.lockout ∧ (backToIdle s k).disp.nt = s.disp.nt
    ∧ (dryRunOrder s k).disp.rotation = s.disp.rotation ∧ (dryRunOrder s k).disp.table = s.disp.table
    ∧ (dryRunOrder s k).disp.lockout = s.disp.lockout ∧ (dryRunOrder s k).disp.nt = s.disp.nt := by
  simp only [enterResting, stopOrder, backToIdle, dryRunOrder]
  repeat' split
  all_goals simp

/-! ## The own notice -/

/-- A withdrawn notice is gone, its hold-off with it (R128). -/
theorem dropNotice_arb (s : State) :
    (dropNotice s).arb.notice = none ∧ (dropNotice s).arb.counter = s.arb.counter
    ∧ (s.arb.notice.isSome = true ∨ s.arb.holdOff = none → (dropNotice s).arb.holdOff = none) := by
  simp only [dropNotice]; split <;> simp_all

/-- A withdrawal clears the notice and moves its channel from NOTICE to IDLE (R128, R146). -/
theorem withdrawNotice_chan (s : State) (n : OwnNotice) (h : s.arb.notice = some n) (j : Chan) :
    (withdrawNotice s).chan j =
      if j = n.channel ∧ s.isIn n.channel .notice = true then parked (s.chan n.channel) .idle else s.chan j := by
  have e : ∀ k, (dropNotice s).chan k = s.chan k := by intro k; simp [State.chan]
  have e' : (dropNotice s).isIn n.channel .notice = s.isIn n.channel .notice := by
    simp [State.isIn, State.chanState, e]
  simp only [withdrawNotice, h, backToIdle_chan, e, e']

/-- Without a notice nothing is withdrawn. -/
theorem withdrawNotice_none (s : State) (h : s.arb.notice = none) : withdrawNotice s = s := by
  simp [withdrawNotice, h]

/-! ## Departures of the port -/

/-- A composed STAGE that is not queued leaves the queue. -/
theorem composeStage_queue (s : State) (h : s.port.state ≠ .active) :
    (composeStage s).port.queue = s.port.queue := by
  simp [composeStage, offerStage, h]

/-- No report on a discarded frame fills the queue of a port that is not ACTIVE. -/
theorem reportDiscardedIf_queue (s : State) (b : Bool) (f : Option Frame) (h : s.port.state ≠ .active)
    (hq : s.port.queue = .empty) : (reportDiscardedIf s b f).port.queue = .empty := by
  simp only [reportDiscardedIf, reportDiscarded, stageLost, quitEnded, enterLeft]
  repeat' split
  all_goals simp_all [composeStage_queue, TxQueue.empty]

/-- A departure from ACTIVE leaves the port as it was, in its new state, with nothing queued and nothing on the line (R28). -/
theorem leaveActive_eq (s : State) (x : PortState) (h : x ≠ .active) :
    (leaveActive s x).port = { s.port with state := x, queue := .empty, tx := none } := by
  have h1 := leaveActive_port s x
  have h2 : (leaveActive s x).port.queue = .empty := by
    simp only [leaveActive]
    apply reportDiscardedIf_queue _ _ _ (by simp [h])
    apply reportDiscardedIf_queue _ _ _ (by simp [h])
    apply reportDiscardedIf_queue _ _ _ (by simp [h])
    exact reportDiscardedIf_queue _ _ _ (by simp [h]) rfl
  have h3 := leaveActive_state s x
  revert h1 h2 h3
  cases (leaveActive s x).port; cases s.port
  simp; intros; simp_all

/-! ## The peer view -/

/-- Reading a record after one has been replaced. -/
theorem setRecord_get (s : State) (m n : Nat) (r : PeerRecord) (h : s.view.records.length = 24)
    (hm : 1 ≤ m ∧ m ≤ 24) (hn : 1 ≤ n) : (s.setRecord m r).record n = if n = m then r else s.record n := by
  rw [State.setRecord_record _ _ _ _ hm.1 hn]; simp [h, hm.2]

/-- A record is read from the list of records alone. -/
theorem record_congr (s t : State) (n : Nat) (h : t.view.records = s.view.records) : t.record n = s.record n := by
  simp [State.record, h]

/-- A composed report: its payload, and the marks of the composition (R42, R44, R50, R52, R64). -/
theorem composeStage_composed (s : State) : Composed s (composeStage s) (stagePayload s) := by
  constructor <;> try rfl
  · simp [stagePayload, Config.invalidLevel]
  · simp [stagePayload]
  · simp [stagePayload]
  · simp [composeStage, reportPeriod]
  · simp only [composeStage, offerStage]; split <;> rfl
  · intro h1 h2
    have e : (composeStage s).record s.own = (s.setRecord s.own { s.record s.own with
        report := some (stagePayload s) }).record s.own := by
      apply record_congr; simp [composeStage]
    rw [e, State.setRecord_record _ _ _ _ h1 h1]
    simp [h2]
  · simp only [composeStage, offerStage]; split <;> simp_all

end Sys2Proof.Machine
end

