-- ==== Sys2Proof/Machine/Render.lean ====
section
/-! DEFINITION. A response as characters (R185, R186): capital names, signed decimal numbers, hexadecimal bytes and digest,
lists joined by commas, an absent figure as "-". Field names that the manual does not give are free values of
Config (log entry 13). -/

namespace Sys2Proof.Machine

/-- A number in decimal. -/
def numText (n : Nat) : String := toString n

/-- A signed number in decimal. -/
def intText (z : Int) : String := toString z

/-- A flag written 0 or 1. -/
def bitText (b : Bool) : String := if b then "1" else "0"

/-- An absent figure is "-". -/
def optText {α : Type} (f : α → String) : Option α → String
  | none => "-"
  | some x => f x

/-- A hexadecimal digit. -/
def hexText (n : Nat) : String := String.singleton ("0123456789ABCDEF".toList.getD n '0')

/-- A byte as two hexadecimal digits. -/
def hexByteText (n : Nat) : String := hexText (n / 16 % 16) ++ hexText (n % 16)

/-- The digest as four hexadecimal digits. -/
def hexWordText (n : Nat) : String := hexByteText (n / 256) ++ hexByteText (n % 256)

/-- A list joined by commas; how an empty one is written is left open. -/
def listText : List String → String
  | [] => Config.emptyListText
  | x :: rest => rest.foldl (fun a b => a ++ "," ++ b) x

/-- Start step names. -/
def stepName : StartStep → String
  | .powerup => "POWERUP"
  | .clockstart => "CLOCKSTART"
  | .configLoad => "CONFIG_LOAD"
  | .halted => "HALTED"
  | .configWait => "CONFIG_WAIT"
  | .selftest => "SELFTEST"
  | .handedOver => "-"

/-- Coordination state names. -/
def coordName : CoordState → String
  | .joining => "JOINING"
  | .coordinating => "COORDINATING"
  | .leaving => "LEAVING"
  | .left => "LEFT"

/-- The station state of STATUS. -/
def stationStateName : StationState → String
  | .step x => stepName x
  | .coord x => coordName x

/-- Clock state names. -/
def clockName : ClockState → String
  | .crystal => "CRYSTAL"
  | .fallback => "FALLBACK"

/-- Port state names. -/
def portName : PortState → String
  | .off => "OFF"
  | .selftest => "SELFTEST"
  | .listen => "LISTEN"
  | .active => "ACTIVE"
  | .lineFault => "LINE_FAULT"
  | .mute => "MUTE"
  | .dead => "DEAD"

/-- Failure reason names. -/
def reasonName : FailureReason → String
  | .imageCrc => "IMAGE_CRC"
  | .version => "VERSION"
  | .station => "STATION"
  | .stages => "STAGES"
  | .levels => "LEVELS"
  | .scaling => "SCALING"
  | .noPump => "NO_PUMP"
  | .noImage => "NO_IMAGE"

/-- Alarm cause names (R186). -/
def alarmName : AlarmCause → String
  | .startup => "STARTUP"
  | .halted => "HALTED"
  | .fault => "FAULT"
  | .selector => "SELECTOR"
  | .level => "LEVEL"
  | .current => "CURRENT"
  | .port => "PORT"
  | .mismatch => "MISMATCH"
  | .blind => "BLIND"

/-- Level input state names. -/
def levelStateName : LevelState → String
  | .init => "INIT"
  | .good => "GOOD"
  | .suspect => "SUSPECT"
  | .held => "HELD"
  | .substituted => "SUBSTITUTED"

/-- Current input state names. -/
def currentStateName : CurrentState → String
  | .init => "INIT"
  | .good => "GOOD"
  | .suspect => "SUSPECT"
  | .lost => "LOST"

/-- Record status names. -/
def statusName : RecordStatus → String
  | .absent => "ABSENT"
  | .self => "SELF"
  | .fresh => "FRESH"
  | .aged => "AGED"
  | .lost => "LOST"
  | .quit => "QUIT"

/-- Mode names. -/
def modeName : Mode → String
  | .off => "OFF"
  | .hand => "HAND"
  | .auto => "AUTO"

/-- Channel state names. -/
def chanStateName : ChanState → String
  | .disabled => "DISABLED"
  | .idle => "IDLE"
  | .notice => "NOTICE"
  | .starting => "STARTING"
  | .running => "RUNNING"
  | .stopping => "STOPPING"
  | .resting => "RESTING"
  | .inLocal => "LOCAL"
  | .fault => "FAULT"

/-- Fault kind names. -/
def faultName : FaultKind → String
  | .overcurrent => "OVERCURRENT"
  | .underload => "UNDERLOAD"
  | .noStart => "NO_START"

/-- Error kind names (R29). -/
def errorName : ErrorKind → String
  | .framing => "FRAMING"
  | .headerCheck => "HEADER_CHECK"
  | .sender => "SENDER"
  | .kind => "KIND"
  | .length => "LENGTH"
  | .payloadCrc => "PAYLOAD_CRC"

/-- Reset kind names. -/
def causeName : ResetCause → String
  | .powerOn => "POWER_ON"
  | .brownOut => "BROWN_OUT"
  | .external => "EXTERNAL"

/-- Report flag names, in the order of the bits of the flags byte (R189). R186 gives the names of a FLAGS or FL list no order:
DESIGN CHOICE (log entry 13). -/
def flagNames (f : ReportFlags) : List String :=
  (if f.restarted then ["RESTARTED"] else []) ++ (if f.degraded then ["POLDER_DEGRADED"] else [])
    ++ (if f.isolated then ["ISOLATED"] else []) ++ (if f.dry then ["DRY"] else [])
    ++ (if f.leaving then ["LEAVING"] else []) ++ (if f.blind then ["BLIND"] else [])

/-- A field NAME=value. -/
def field (name value : String) : String := name ++ "=" ++ value

/-- The three figures of a level input at the end of STATUS. -/
def levelFields (input : Nat) (x : PubLevel) : List String :=
  [ field (Config.levelFieldName input 0) (levelStateName x.state),
    field (Config.levelFieldName input 1) (optText intText x.working),
    field (Config.levelFieldName input 2) (optText numText x.lastLoop) ]

/-- The fields of STATUS, in the order of R186. -/
def statusFields (r : StatusReport) : List String :=
  [ field "STATE" (stationStateName r.state), field "CLOCK" (optText clockName r.clock),
    field "PORT" (portName r.port), field "REASON" (optText reasonName r.reason),
    field "ALARM" (bitText r.alarm), field "CAUSES" (listText (r.causes.map alarmName)),
    field "S" (optText intText r.stage), field "BLIND" (bitText r.blind), field "CAND" (numText r.cand),
    field "A" (optText numText r.a), field "F" (optText numText r.f), field "ANET" (optText numText r.net),
    field "U" (numText r.urgency), field "CAV" (numText r.cav), field "D" (numText r.demand),
    field "G" (numText r.share), field "QTGT" (numText r.qTgt), field "ISO" (bitText r.isolated),
    field "NT" (optText numText r.nt), field "CRUN" (numText r.crun), field "DRY" (bitText r.dry),
    field "FLAGS" (listText (flagNames r.flags)) ]
  ++ levelFields 0 r.polder ++ levelFields 1 r.sump ++ levelFields 2 r.river

/-- The fields of VIEW n, in the order of R186. -/
def viewFields (n : Nat) (r : PeerRecord) : List String :=
  [ field "N" (numText n), field "ST" (statusName r.status), field "MM" (bitText r.mismatch),
    field "AGE" (numText r.age), field "LAST" (numText r.lastNumber), field "MISSED" (numText r.missed) ]
  ++ (match r.report with
    | none => [field "REP" "-"]
    | some p =>
      [ field "RN" (numText p.number), field "FL" (listText (flagNames p.flags)), field "PL" (intText p.polder),
        field "RS" (intText p.river), field "U" (numText p.urgency), field "D" (numText p.demand),
        field "CAV" (numText p.cav), field "EA" (numText p.eAuto), field "EH" (numText p.eHand),
        field "RP" (numText p.runPower), field "IP" (numText p.instPower), field "G" (numText p.share),
        field "DG" (hexWordText p.digest) ])
  ++ (match r.pending with
    | none => [field "PS" "-"]
    | some p =>
      [ field "CH" (numText p.channel), field "PW" (numText p.power), field "PU" (numText p.urgency),
        field "PN" (numText p.number), field "REM" (numText p.remaining), field "Y" (bitText p.yielded) ])

/-- The fields of PUMP k, in the order of R186. -/
def pumpFields (r : PumpReport) : List String :=
  let f := r.figures
  [ field "K" (numText r.k), field "FIT" (optText bitText r.fit),
    field "MODE" (optText modeName (f.bind (·.mode))),
    field "SEL" (optText (fun x : PumpFigures => bitText x.selector) f),
    field "STATE" (optText chanStateName (f.bind (·.state))),
    field "FAULT" (optText faultName (f.bind (·.fault))),
    field "REF" (optText (fun x : PumpFigures => numText x.reference) f),
    field "ISTATE" (currentStateName r.current.state), field "IW" (optText numText r.current.working),
    field "ILOOP" (optText numText r.current.lastLoop),
    field "QMAX" (optText numText (f.bind (·.qmax))), field "QMIN" (optText numText (f.bind (·.qmin))),
    field "POS" (optText numText (f.bind (·.position))),
    field "OC" (optText (fun x : PumpFigures => numText x.oc) f),
    field "SL" (optText (fun x : PumpFigures => numText x.sl) f),
    field "UL" (optText (fun x : PumpFigures => numText x.ul) f) ]

/-- The first-error record: kind, sender or "-", kind byte, time. -/
def firstErrorText (e : FirstError) : String :=
  listText [errorName e.error, optText numText e.sender, hexByteText e.kind, numText e.time]

/-- ST of LINE. -/
def selfTestText : SelfTestShown → String
  | .notYet => "-"
  | .pass => "PASS"
  | .record r =>
    listText [numText r.frame, numText r.byte, hexByteText r.expected, hexByteText r.received]

/-- The fields of LINE, in the order of R186. -/
def lineFields (r : LineReport) : List String :=
  [ field "GOOD" (numText r.good), field "BAD" (numText r.bad), field "LOSS" (numText r.losses),
    field "LF" (numText r.lineFaults), field "FE" (optText firstErrorText r.firstError),
    field "ST" (selfTestText r.selfTest) ]

/-- The fields of CAUSE, in the order of R186. -/
def causeFields (r : CauseReport) : List String :=
  [ field "CAUSE" (causeName r.cause), field "WARM" (numText r.warmCount),
    field "REASON" (optText reasonName r.reason) ]

/-- Error code words. -/
def errorWord : ErrorCode → String
  | .errSyntax => "SYNTAX"
  | .errState => "STATE"
  | .errRange => "RANGE"

/-- The words of a response, single spaces between them. -/
def responseWords : Response → List String
  | .ok => ["OK"]
  | .status r => "OK" :: statusFields r
  | .view n r => "OK" :: viewFields n r
  | .pump r => "OK" :: pumpFields r
  | .line r => "OK" :: lineFields r
  | .cause r => "OK" :: causeFields r
  | .err e reason => ["ERR", errorWord e] ++ (reason.map reasonName).toList

/-- The line a response is sent as, with its CR LF (R185). -/
def responseText (r : Response) : String :=
  (match responseWords r with
    | [] => ""
    | w :: rest => rest.foldl (fun a b => a ++ " " ++ b) w) ++ "\r\n"

end Sys2Proof.Machine
end

