-- ==== Sys2Proof/Tests/Slice0.lean ====
section
/-! SUPPORT. The model's own tests. Expected results come from the manual's worked examples (the section is named at each)
or from its tables. The second half holds one witness for each statement of Certificates/Slice0 that has hypotheses: named
states and operands that meet them. -/

namespace Sys2Proof.Tests

open Sys2Proof.Machine

-- One theorem after another: side by side their kernel evaluations would need many stacks at once.
set_option Elab.async false

/-! ## Helpers: a station 7 in service, as in the worked figures of 4.6, 5.8 and 6.2 -/

/-- The state after one command. -/
def after (c : Instr) (s : State) : State :=
  match exec c s with
  | .next t => t
  | .fault _ => s
  | .refused _ => s

/-- The pump block of 6.2. -/
def demoPump : PumpBlock :=
  { fitted := true, qr := 1000, hr := 4000, hsh := 9000, nmin := 400, power := 450, fs := 1000, ioc := 900,
    istart := 1200, iul := 100, deglitch := 0 }

/-- The configuration of station 7: line figures of 4.6, own figures of 5.8, pumps of 6.2. -/
def demoConfig : StationConfig :=
  { station := 7, bitRate := 1, period := 1, aFull := 9000, sFree := 1200, sClose := 2600, pFeed := 2500,
    tHold := 3, tStart := 10, target := -2400, alarm := -1600, dryRun := -5000, sumpMargin := 200,
    qAssured := 1500, slewStep := 20, tRest := 60, polder := ⟨-4000, 1000⟩, sump := ⟨-6000, 0⟩,
    river := ⟨0, 4500⟩, pumps := ⟨demoPump, demoPump, demoPump, ⟨false, 0, 0, 0, 0, 0, 0, 0, 0, 0, 0⟩⟩,
    digest := 54751 }

/-- A pump block of the image, byte by byte (11.4). -/
def demoBlock : List Byte :=
  [1, 0x03, 0xE8, 0x0F, 0xA0, 0x23, 0x28, 0x01, 0x90, 0x01, 0xC2, 0x03, 0xE8, 0x03, 0x84, 0x04, 0xB0, 0x00, 0x64, 0]

/-- The image of that configuration (11.4); its CRC computed outside the model. -/
def demoImage : List Byte :=
  [1, 7, 1, 1, 0x23, 0x28, 0x04, 0xB0, 0x0A, 0x28, 0x09, 0xC4, 3, 10]
    ++ [0xF6, 0xA0, 0xF9, 0xC0, 0xEC, 0x78, 0x00, 0xC8, 0x05, 0xDC, 20, 0x00, 0x3C]
    ++ [0xF0, 0x60, 0x03, 0xE8, 0xE8, 0x90, 0x00, 0x00, 0x00, 0x00, 0x11, 0x94, 0]
    ++ demoBlock ++ demoBlock ++ demoBlock ++ List.replicate 26 0 ++ [0x2E, 0x00]

/-- A GOOD level input with a full window of one loop current. -/
def steadyLevel (ic : Nat) : LevelInput :=
  { state := .good, window := List.replicate 8 ic, bad := 0, run := [], held := none, holdCount := 0,
    lastLoop := some ic }

/-- A GOOD current input with a full window of one loop current. -/
def steadyCurrent (ic : Nat) : CurrentInput :=
  { state := .good, window := List.replicate 8 ic, bad := 0, run := [], lastLoop := some ic }

/-- A channel in AUTO, in a state without outputs. -/
def autoIn (x : ChanState) : Channel :=
  { sample := some .autoOnly, sample2 := some .autoOnly, combination := .autoOnly, mode := some .auto, selector := false,
    state := some x, run := false, reference := 0, window := none, rest := none }

/-- A channel that the configuration does not fit: no mode (R137). -/
def unfitted : Channel := { Channel.reset with mode := none }

/-- A turning channel. -/
def autoTurning (x : ChanState) (n : Nat) : Channel := { autoIn x with run := true, reference := n }

/-- A peer record with a report. -/
def peer (status : RecordStatus) (river : Int) (urgency demand cav eHand : Nat) : PeerRecord :=
  { status := status, mismatch := false, lastNumber := 88, age := if status = .lost then 101 else if status = .aged then 41 else 12,
    missed := 0, pending := none
    report := some { number := 88, flags := ⟨false, false, false, false, false, false⟩, polder := -1500, river := river,
                     urgency := urgency, demand := demand, cav := cav, eAuto := 0, eHand := eHand, runPower := 0,
                     instPower := 0, share := 0, digest := 54751 } }

/-- The 24 records of 4.6 and 5.8. -/
def demoRecords : List PeerRecord :=
  let a := PeerRecord.absent
  [a, a, peer .fresh 1820 800 1200 1500 0, a, peer .aged (-32768) 350 600 1714 150, a, { a with status := .self }, a,
    peer .lost 1930 0 0 1000 0, a, a, peer .fresh (-32768) 0 0 900 0, a, peer .fresh 1790 600 900 1500 0]
  ++ List.replicate 10 a

/-- Station 7 COORDINATING with P1 IDLE, P2 and P3 RUNNING at 1022 (5.8, 6.2). -/
def live : State :=
  { State.reset with
    ctl := { Controller.reset with
      step := .handedOver, delay := .ended, clock := some .crystal, crystalOn := true, monitor := true
      station := some 7, source := some 0, config := some demoConfig }
    acq :=
      { scanTimer := some 100, scan := none
        polder := steadyLevel 11744, sump := steadyLevel 11334, river := steadyLevel 10223
        currents := ⟨steadyCurrent 12000, steadyCurrent 12000, steadyCurrent 12000, CurrentInput.reset⟩
        pub :=
          { polder := ⟨.good, some (-1580), some 11744⟩, sump := ⟨.good, some (-3250), some 11334⟩
            river := ⟨.good, some 1750, some 10223⟩, degraded := false, head := some 5000
            currents := ⟨⟨.good, some 500, some 12000⟩, ⟨.good, some 500, some 12000⟩, ⟨.good, some 500, some 12000⟩,
              PubCurrent.reset⟩ } }
    port := { Port.reset with state := .active, bitRate := some 19200, lastSender := some 5, idle := some 18 }
    sched := ⟨some .coordinating, none, some 2000, none, false, 58, false, some .below, false⟩
    view := { records := demoRecords, ageingTimer := some 100 }
    allow := ⟨some 1820, true, false, some 5014, some 1150, some 3864, 3⟩
    alloc := ⟨some 1000, none, 1000, 2400, 2400, 2258, 2258, true⟩
    disp :=
      { rotation := some [1, 2, 3], table := some ⟨some ⟨800, 313⟩, some ⟨800, 313⟩, some ⟨800, 313⟩, none⟩, crun := 1600
        nt := some 1022, lockout := false, slewTimer := some 100, hand := ⟨false, false, false, false⟩
        eAuto := 1600, eHand := 0, runPower := 900, instPower := some 1350 }
    chans := ⟨autoIn .idle, autoTurning .running 1022, autoTurning .running 1022, unfitted⟩
    sup := { Supervision.reset with level := some false, samples := [true, true, true, true] } }

/-- `live` with all seven inputs of a scan converted, and a given sump loop current. -/
def scanned (sump : Nat) : State :=
  { live with acq := { live.acq with scan := some 7, sump := steadyLevel sump } }

/-- `live` with a computation in progress. -/
def computing : State := { live with alloc := { live.alloc with snapshot := some (takeSnapshot live) } }

/-- A STAGE of station 3 (number 58, ISOLATED, levels -1580 and 1820). -/
def demoStage : StagePayload :=
  { number := 58, flags := ⟨false, false, true, false, false, false⟩, polder := -1580, river := 1820, urgency := 800,
    demand := 1200, cav := 1500, eAuto := 0, eHand := 0, runPower := 450, instPower := 1350, share := 902, digest := 16706 }

/-- Its thirty bytes, written from 2.2 and 11.3; the CRC computed outside the model. -/
def stageWord : List Byte :=
  [0x11, 3, 24, 211, 58, 0x04, 0xF9, 0xD4, 0x07, 0x1C, 0x03, 0x20, 0x04, 0xB0, 0x05, 0xDC]
    ++ [0, 0, 0, 0, 0x01, 0xC2, 0x05, 0x46, 0x03, 0x86, 0x41, 0x42, 131, 32]

/-- A START of station 3 for P2, urgency 800, 450 kW, number 5, byte by byte. -/
def startWord : List Byte := [0x22, 3, 6, 212, 2, 0x03, 0x20, 0x01, 0xC2, 5, 110, 230]

/-- A QUIT of station 7, number 57, byte by byte. -/
def quitWord : List Byte := [0x33, 7, 2, 195, 1, 57, 142, 44]

/-- An own notice for P1. -/
def demoNotice (phase : NoticePhase) (urgency : Nat) : OwnNotice := ⟨.p1, urgency, 450, 9, phase⟩

/-- `live` with a notice for P1, which is in NOTICE. -/
def noticed (phase : NoticePhase) (urgency : Nat) : State :=
  { live with
    arb := ⟨some (demoNotice phase urgency), if phase = .holding then some 3000 else none, 10⟩
    chans := { live.chans with p1 := autoIn .notice } }

/-! ## WellFormed: one ill-formed term for each check -/

theorem test_wf_conversion : (Instr.conversionEnd .polder 25001).wf = false := by decide
theorem test_wf_memory : (Instr.serialMemoryReadEnd [true]).wf = false := by decide
theorem test_wf_selftest_empty : (Instr.selftestEnd []).wf = false := by decide
theorem test_wf_selftest_long : (Instr.selftestEnd (List.replicate 121 ⟨0#8, true⟩)).wf = false := by decide +kernel
theorem test_wf_slot : (Instr.slotStart 13 false).wf = false := by decide
theorem test_wf_load_empty : (Instr.load 0 []).wf = false := by decide
theorem test_wf_load_long : (Instr.load 0 (List.replicate 17 0#8)).wf = false := by decide
theorem test_wf_frames :
    let f : RxFrame := ⟨⟨0x11#8, true⟩, List.replicate 261 ⟨0#8, true⟩⟩
    (Instr.driveFailure (some f)).wf = false ∧ (Instr.stuckLine (some f)).wf = false
      ∧ (Instr.stageReportReceived f).wf = false ∧ (Instr.startNoticeReceived f).wf = false
      ∧ (Instr.quitNoticeReceived f).wf = false ∧ (Instr.badFrame f).wf = false := by decide +kernel

/-! ## The manual's worked figures -/

/-- 1.2: the polder input of Lo -4000, Hi 1000. -/
theorem test_scaling : scaleLevel ⟨-4000, 1000⟩ 11250 = -1735 ∧ scaleLevel ⟨-4000, 1000⟩ (clampLoop 3800) = -4000
    ∧ scaleLevel ⟨-4000, 1000⟩ (clampLoop 20500) = 1000 ∧ goodConversion 3500 = false
    ∧ goodConversion 3800 = true ∧ goodConversion 20500 = true := by decide

/-- 1.2: a mean of -1735.125 rounds to -1736; 11250, 11247 and 11252 scale to -1735, -1736 and -1734. -/
theorem test_filter : filteredLevel ⟨-4000, 1000⟩ [11250, 11250, 11247, 11250, 11252, 11250, 11247, 11250]
    = some (-1736) := by decide

/-- 1.3, scans 6 and 19: a recovery of one advances the hold count, the eighth makes the input GOOD. -/
theorem test_hold :
    let x : LevelInput := { steadyLevel 10223 with state := .held, bad := 3, held := some 1884 }
    (convertLevel (some ⟨0, 4500⟩) 10000 x).run.length = 1 ∧ (convertLevel (some ⟨0, 4500⟩) 10000 x).holdCount = 1
      ∧ (convertLevel (some ⟨0, 4500⟩) 10000 { x with run := List.replicate 7 10000, holdCount := 13 }).state = .good
      ∧ (convertLevel (some ⟨0, 4500⟩) 100 { x with run := [10000], holdCount := 299 }).state = .substituted := by
  decide

/-- 2.2: the check figure of the CRC. -/
theorem test_crc : crc16 (chars "123456789") = 0x29B1#16 := by decide +kernel

/-- 2.2: the header check of a STAGE from station 7. -/
theorem test_header : headerCheck 0x11 7 24 = 0xCF := by decide

/-- 2.12: the slots after station 5's STAGE, and of station 12 with the last sender unknown. -/
theorem test_slots : isSlot 3 (some 5) 98 = true ∧ isSlot 7 (some 5) 18 = true ∧ isSlot 12 (some 5) 38 = true
    ∧ isSlot 19 (some 5) 66 = true ∧ isSlot 12 none 58 = true ∧ isSlot 19 (some 7) 58 = true
    ∧ isSlot 3 (some 19) 42 = true ∧ isSlot 7 (some 5) 22 = false := by decide

/-- 2.12: stations 12 and 19 begin together and 19 loses at the first bit of the number. -/
theorem test_contention : losesTo (byteBits 19#8) (byteBits 12#8) = true ∧ losesTo (byteBits 12#8) (byteBits 19#8) = false
    ∧ losesTo (byteBits 0x11#8) (byteBits 0x22#8) = true ∧ losesTo (byteBits 0x33#8) (byteBits 0x11#8) = true := by
  decide

/-- 11.3: words written out byte by byte are read as the frames they stand for. -/
theorem test_words : checkFrame false (received stageWord) = .good 3 (.stage demoStage)
    ∧ checkFrame false (received startWord) = .good 3 (.start ⟨2, 800, 450, 5⟩)
    ∧ checkFrame false (received quitWord) = .good 7 (.quit ⟨1, 57⟩) := by decide +kernel

/-- 2.7: a frame of each error kind. -/
theorem test_errors :
    checkFrame false (received [0x33, 7, 2, 195, 1, 57, 142]) = .bad .framing
      ∧ checkFrame false (received [0x33, 7, 2, 194]) = .bad .headerCheck
      ∧ checkFrame false (received [0x33, 25, 2, 177, 1, 57, 0, 0]) = .bad .sender
      ∧ checkFrame false (received [0x44, 7, 2, 178, 1, 57, 0, 0]) = .bad .kind
      ∧ checkFrame false (received [0x33, 7, 0, 197, 0, 0]) = .bad .length
      ∧ checkFrame false (received [0x33, 7, 2, 195, 1, 57, 142, 45]) = .bad .payloadCrc := by decide +kernel

/-- 3.6: the ages at P = 2 s at which a record is AGED and LOST. -/
theorem test_ages : statusByAge 2 40 = .fresh ∧ statusByAge 2 41 = .aged ∧ statusByAge 2 100 = .aged
    ∧ statusByAge 2 101 = .lost := by decide

/-- 3.6: station 20's 30 missed reports, from 203 to 234. -/
theorem test_missed : (acceptStage 0 { demoStage with number := 234 } { peer .lost 0 0 0 0 0 with lastNumber := 203 }).missed = 30 := by
  decide

/-- 4.6: the allowance at station 7. -/
theorem test_allowance : evaluate demoConfig (takeSnapshot live) Allowance.reset
    = ⟨some 1820, true, false, some 5014, some 1150, some 3864, 3⟩ := by decide +kernel

/-- 4.6: the same reach with station 3 mismatched. -/
theorem test_mismatch :
    evaluate demoConfig
      { takeSnapshot live with records := demoRecords.set 2 { peer .fresh 1820 800 1200 1500 0 with mismatch := true } }
      Allowance.reset = ⟨some 1790, true, false, some 5207, some 2650, some 2557, 2⟩ := by decide +kernel

/-- 5.8: the two passes at station 7; the members in the order of the second pass. -/
theorem test_grants : grants 3864 [⟨3, 800, 1200⟩, ⟨5, 350, 600⟩, ⟨7, 1000, 2400⟩, ⟨14, 600, 900⟩]
    = [⟨⟨7, 1000, 2400⟩, 2258⟩, ⟨⟨3, 800, 1200⟩, 902⟩, ⟨⟨14, 600, 900⟩, 507⟩, ⟨⟨5, 350, 600⟩, 197⟩] := by decide +kernel

/-- 5.9 and 5.10: caps before the remainder, and a tie that goes to the lower number. -/
theorem test_caps : (grants 1500 [⟨2, 1000, 200⟩, ⟨8, 200, 3000⟩, ⟨15, 900, 400⟩]).map (·.grant) = [200, 400, 900]
    ∧ (grants 601 [⟨4, 600, 500⟩, ⟨6, 600, 500⟩, ⟨9, 0, 300⟩]).map (·.grant) = [301, 300, 0] := by decide +kernel

/-- 5.8: what station 7 publishes at the completion; crun 1600 is short of 2258, and P1 is put in NOTICE. -/
theorem test_completion :
    let t := after .allocationCompletion computing
    t.alloc = ⟨some 1000, none, 1000, 2400, 2400, 2258, 2258, true⟩ ∧ t.chanState .p1 = some .notice
      ∧ t.port.queue.start = some ⟨1, 1000, 450, 0⟩ := by decide +kernel

/-- 6.2: the discharge figures of station 7's pumps. -/
theorem test_discharge : fullDischarge demoPump 3800 = 1000 ∧ fullDischarge demoPump 5000 = 800
    ∧ fullDischarge demoPump 6200 = 560 ∧ fullDischarge demoPump 9000 = 0 ∧ atSpeed 1000 400 = 391
    ∧ atSpeed 800 400 = 313 ∧ atSpeed 560 400 = 219 ∧ atSpeed 800 961 = 752 := by decide

/-- 10.6 and 11.4: the image gives the configuration, with the digest computed outside the model. -/
theorem test_config : configOf demoImage = demoConfig := by decide +kernel

/-- 10.5: a passing image, and each failure reason in the order of the checks. -/
theorem test_validate : validate 7 demoImage = none ∧ validate 6 demoImage = some .station
    ∧ validate 7 (demoImage.set 0 2) = some .imageCrc := by
  simp only [validate_go]; decide +kernel

/-- R176: bytes come in most significant bit first; an absent memory reads 0xFF in every byte. -/
theorem test_memory : byteOfBits [false, true, false, true, false, false, false, false] = 0x50#8
    ∧ (clockedIn [false, false, false, false, false, false, false, true]).take 3 = [0x01, 0xFF, 0xFF]
    ∧ clockedIn [] = List.replicate 128 0xFF#8 := by decide +kernel

/-- 10.8: the run of resets, second brown-out: cause, count, list and delay. -/
theorem test_brownout :
    let t := after .brownOut { live with ctl := { live.ctl with warmCount := 1, delay := .running } }
    t.ctl.cause = .brownOut ∧ t.ctl.warmCount = 2 ∧ t.disp.rotation = some [1, 2, 3] ∧ t.ctl.delay = .stopped := by
  decide +kernel

/-- 11.2: the session's lines: a lower-case word and a load past byte 127. -/
theorem test_session : readLine false (chars "load end") = .syntaxError
    ∧ readLine false (chars "LOAD END") = .request .loadEnd
    ∧ readLine false (chars "LOAD 14 F8 30 FC 18") = .request (.load 14 [0xF8, 0x30, 0xFC, 0x18])
    ∧ (doLoad { State.reset with ctl := { Controller.reset with step := .configWait } } 120
        (List.replicate 9 0)).maint.response = some (.err .errRange none) := by decide +kernel

/-- 11.2: the session's last response, character for character. -/
theorem test_cause_text : responseText (.cause ⟨.powerOn, 0, some .imageCrc⟩)
    = "OK CAUSE=POWER_ON WARM=0 REASON=IMAGE_CRC\r\n" := by decide +kernel

/-- 3.4: a LEAVE composes STAGE 58 with LEAVING at once, and the counter is 59. -/
theorem test_leave :
    let t := after .leave live
    t.sched.coord = some .leaving ∧ t.sched.counter = 59 ∧ t.alloc.qTgt = 0
      ∧ (t.port.queue.stage.map (·.flags.leaving)) = some true ∧ t.maint.response = some .ok := by decide +kernel

/-- No row of the table gives bits, so no word spells a command, and `withFetchWord` leaves the state. -/
theorem test_decode : decodeTableWord 8 0 = none ∧ (State.reset.withFetchWord 8 0).pending = [] := by decide

/-! ## Witnesses: states and operands that meet the hypotheses of each statement, clause by clause -/

theorem witness_StepRunsTheFrontCommand :
    ({ State.reset with pending := [.secondsTick] } : State).pending = .secondsTick :: [] ∧ State.reset.pending = [] := by
  decide

theorem witness_ResetsRecordTheirCauseAndDriveTheOutputsInactive : live.ctl.brownOut = false := by decide

/-- A controller in reset, with an assertion of the supply and a state of the delay. -/
def inReset (brownOut : Bool) (delay : DelayTimer) : State :=
  { State.reset with ctl := { Controller.reset with resetHeld := true, brownOut := brownOut, delay := delay } }

theorem witness_PowerUpWaitsForTheDelayAndTheRelease :
    ((inReset false .running).ctl.resetHeld = true ∧ (inReset false .running).ctl.brownOut = false
      ∧ (inReset false .running).ctl.delay ≠ .ended ∧ (inReset false .running).ctl.delay = .running)
    ∧ ((inReset false .ended).ctl.resetHeld = true ∧ (inReset false .ended).ctl.brownOut = false
      ∧ (inReset false .ended).ctl.delay = .ended)
    ∧ ((inReset true .stopped).ctl.resetHeld = true ∧ (inReset true .stopped).ctl.brownOut = true)
    ∧ (State.reset.ctl.delay = .running ∧ State.reset.ctl.resetHeld = false ∧ State.reset.ctl.step = .powerup) := by
  decide

/-- A part in CLOCKSTART. -/
def starting : State :=
  { State.reset with ctl := { Controller.reset with step := .clockstart, delay := .ended, crystalOn := true } }

theorem witness_ClockStartPassesToTheConfigurationLoad :
    starting.ctl.resetHeld = false ∧ starting.ctl.step = .clockstart ∧ starting.port.state = .off
      ∧ (⟨7#5, 1#2⟩ : Straps).csrc = 1#2 ∧ (⟨7#5, 2#2⟩ : Straps).csrc ≠ 1#2 := by decide

/-- `live` with the port in a given state. -/
def portIn (x : PortState) : State :=
  { live with port := { live.port with
      state := x, lineFaultTimer := if x = .lineFault then some 30000 else none } }

theorem witness_ClockFallbackMutesThePortByItsState :
    (∀ x, (portIn x).ctl.clock = some .crystal ∧ (portIn x).port.state = x)
    ∧ (after .clockMonitorFallback { noticed .queued 900 with
        port := { live.port with queue := ⟨some ⟨1, 900, 450, 9⟩, none, none⟩ } }).arb.holdOff = some 3000
    ∧ (after .clockMonitorFallback { live with
        port := { live.port with queue := ⟨none, none, some ⟨1, 57⟩⟩ }
        sched := { live.sched with coord := some .leaving } }).sched.coord = some .left := by
  refine ⟨fun x => ?_, ?_⟩
  · cases x <;> decide
  · decide +kernel

/-- A part in CONFIG_LOAD with strap number 7 and a source. -/
def loading (station source : Nat) : State :=
  { State.reset with ctl := { Controller.reset with
      step := .configLoad, clock := some .crystal, station := some station, source := some source } }

theorem witness_TheReadImageIsJudgedAtTheEndOfTheRead :
    (loading 7 2).ctl.step = .configLoad ∧ (outputs (loading 7 2)).memoryOut = [0x03#8, 0x00#8] ∧ demoImage.length = 128 ∧ (loading 7 2).view.records.length = 24
      ∧ validate ((loading 7 2).ctl.station.getD 0) demoImage = none
      ∧ validate ((loading 6 2).ctl.station.getD 0) demoImage = some .station
      ∧ (loading 6 2).ctl.source = some 2 ∧ (loading 6 0).ctl.source ≠ some 2 := by
  simp only [validate_go]; decide +kernel

theorem witness_ClampsBringTheFiguresIntoRange :
    (quadGet (configOf demoImage).pumps .p1).fitted = true ∧ demoImage.length = 128
      ∧ (configOf (demoImage.set 2 0)).bitRate = 0 ∧ (configOf demoImage).station = 7
      ∧ (quadGet (configOf demoImage).pumps .p4).fitted = false
      ∧ (quadGet (configOf (demoImage.set 50 0 |>.set 49 0)).pumps .p1).fitted = false := by decide +kernel

theorem witness_TheRotationListIsSettledAgainstTheFittedChannels :
    ([3, 4, 1].Nodup ∧ ∀ n ∈ [3, 4, 1], 1 ≤ n ∧ n ≤ 4) ∧ ¬ ([2, 2].Nodup ∧ ∀ n ∈ [2, 2], 1 ≤ n ∧ n ≤ 4)
      ∧ ¬ ([0, 5].Nodup ∧ ∀ n ∈ [0, 5], 1 ≤ n ∧ n ≤ 4) ∧ settleRotation demoConfig (some [3, 4, 1]) = [3, 1, 2]
      ∧ settleRotation demoConfig (some [2, 2]) = [1, 2, 3] := by decide

/-- A part in the self-test. -/
def testing : State :=
  { State.reset with
    ctl := { Controller.reset with step := .selftest, config := some demoConfig }
    port := { Port.reset with state := .selftest } }

theorem witness_SelfTestEndHandsOverInJoining :
    testing.port.state = .selftest ∧ selfTestSent[0]? = some (1, 0, 0#8) ∧ selfTestSent[119]? = some (4, 29, 29#8)
      ∧ ¬ ((⟨1#8, true⟩ : RxByte).data = 0#8 ∧ (⟨1#8, true⟩ : RxByte).stopOk = true)
      ∧ ¬ ((⟨29#8, false⟩ : RxByte).data = 29#8 ∧ (⟨29#8, false⟩ : RxByte).stopOk = true) := by decide +kernel

theorem witness_TheReceiverTheSecondsAndTheLineFaultTimer :
    ({ live.port with sync := true } : Port).sync = true ∧ live.port.state ≠ .off ∧ State.reset.port.state = .off
      ∧ (portIn .lineFault).port.state = .lineFault ∧ (portIn .lineFault).port.lineFaultTimer.isSome = true := by
  decide

/-- `live` with P1 in a state and a newest selector sample. -/
def sampled (x : ChanState) (c m : Combination) : State :=
  { noticed .holding 900 with
    chans := { live.chans with p1 := { autoIn x with sample := some c, combination := m, mode := some (modeOf m) } } }

theorem witness_SelectorSamplesChangeTheModeAndMoveTheChannel :
    NoneOffered (sampled .idle .handOnly .autoOnly)
    ∧ (∀ x c m, (sampled x c m).acq.scanTimer.isSome = true ∧ (sampled x c m).fitted .p1 = true
      ∧ ((sampled x c m).chan .p1).sample = some c)
    ∧ ((sampled .notice .handOnly .autoOnly).chan .p1).combination ≠ readContacts ⟨false, true⟩
    ∧ (after (.scanTimerExpiry ⟨⟨false, true⟩, ⟨true, false⟩, ⟨true, false⟩, ⟨false, false⟩⟩)
        (sampled .notice .handOnly .autoOnly)).chanState .p1 = some .inLocal
    ∧ (sampled .notice .handOnly .autoOnly).reporting = true ∧ (sampled .notice .handOnly .autoOnly).disp.eHand = 0
    ∧ (after (.scanTimerExpiry ⟨⟨false, true⟩, ⟨true, false⟩, ⟨true, false⟩, ⟨false, false⟩⟩)
        (sampled .notice .handOnly .autoOnly)).disp.eHand = 800
    ∧ (after (.scanTimerExpiry ⟨⟨false, true⟩, ⟨true, false⟩, ⟨true, false⟩, ⟨false, false⟩⟩)
        (sampled .notice .handOnly .autoOnly)).port.queue.stage.map (·.eHand) = some 800
    ∧ (let s : State := { live with chans := { live.chans with p4 := { unfitted with sample := some .handOnly } } }
      let t := after (.scanTimerExpiry ⟨⟨true, false⟩, ⟨true, false⟩, ⟨true, false⟩, ⟨false, true⟩⟩) s
      s.ctl.config.isSome = true ∧ s.fitted .p4 = false ∧ (t.chan .p4).combination = .handOnly
        ∧ (t.chan .p4).mode = none)
    ∧ (after (.scanTimerExpiry ⟨⟨false, false⟩, ⟨true, false⟩, ⟨true, false⟩, ⟨false, false⟩⟩)
        (sampled .idle .neither .autoOnly)).chanState .p1 = some .disabled
    ∧ (after (.scanTimerExpiry ⟨⟨true, false⟩, ⟨true, false⟩, ⟨true, false⟩, ⟨false, false⟩⟩)
        (sampled .inLocal .autoOnly .handOnly)).chanState .p1 = some .resting := by
  refine ⟨rfl, fun x c m => ⟨rfl, rfl, rfl⟩, ?_⟩; decide +kernel

/-- A level input in a state, with its bad count, recovery run and hold count. -/
def levelIn (x : LevelState) (bad run holdCount : Nat) : LevelInput :=
  { steadyLevel 10000 with state := x, bad := bad, run := List.replicate run 10000, holdCount := holdCount }

/-- A current input in a state, with its bad count and recovery run. -/
def currentIn (x : CurrentState) (bad run : Nat) : CurrentInput :=
  { steadyCurrent 10000 with state := x, bad := bad, run := List.replicate run 10000 }

/-- `live` during a scan that has converted a number of inputs. -/
def atPlace (n : Nat) : State := { live with acq := { live.acq with scan := some n } }

theorem witness_ConversionsAdvanceTheirOwnInputByTheTable :
    (∀ n, (atPlace n).acq.scan = some n) ∧ chanNum .p1 + 2 = 3 ∧ chanNum .p4 + 2 = 6
      ∧ (after (.conversionEnd (.current .p4) 12000) (atPlace 6)).acq.scan = some 7
      ∧ (atPlace 2).acq.scan ≠ some 1 ∧ (List.replicate 8 4000).length ≤ 8
      ∧ pushWindow (List.replicate 8 4000) 5000 = List.replicate 7 4000 ++ [5000]
      ∧ clampLoop 3600 = 4000 ∧ clampLoop 21000 = 20000 ∧ goodConversion 3600 = true ∧ goodConversion 21000 = true
      ∧ goodConversion 3599 = false ∧ goodConversion 21001 = false
      ∧ (levelIn .init 1 0 0).bad + 1 < 3 ∧ 3 ≤ (levelIn .init 2 0 0).bad + 1
      ∧ (levelIn .suspect 1 0 0).bad + 1 < 3 ∧ 3 ≤ (levelIn .suspect 2 0 0).bad + 1
      ∧ 8 ≤ (levelIn .held 3 7 0).run.length + 1 ∧ (levelIn .held 3 6 299).run.length + 1 < 8
      ∧ 8 ≤ (levelIn .substituted 3 7 0).run.length + 1 ∧ (levelIn .substituted 3 6 0).run.length + 1 < 8
      ∧ 3 ≤ (currentIn .init 2 0).bad + 1 ∧ (currentIn .suspect 1 0).bad + 1 < 3
      ∧ 8 ≤ (currentIn .lost 3 7).run.length + 1 ∧ (currentIn .lost 3 6).run.length + 1 < 8 := by
  refine ⟨fun n => rfl, ?_⟩; decide +kernel

theorem witness_LevelsAndCurrentsScaleToTheirRanges :
    validate 7 demoImage = none ∧ ((⟨-32768, 32767⟩ : LevelScale).lo < (⟨-32768, 32767⟩ : LevelScale).hi)
      ∧ (quadGet (configOf demoImage).pumps .p3).fitted = true := by
  simp only [validate_go]; decide +kernel

/-- `live` at the end of a scan with each level input in a given state. -/
def scannedIn (x : LevelState) (held : Option Int) : State :=
  { live with acq := { live.acq with
      scan := some 7, polder := { levelIn x 3 0 0 with held := held }, sump := { levelIn x 3 0 0 with held := held }
      river := { levelIn x 3 0 0 with held := held } } }

theorem witness_ScanCompletionPublishesTheWorkingFigures :
    (∀ x h, (scannedIn x h).acq.scan = some 7 ∧ (scannedIn x h).ctl.config = some demoConfig
      ∧ (scannedIn x h).acq.sump.state = x)
    ∧ (after .scanCompletion (scannedIn .substituted none)).acq.pub.sump.working = some (-5000)
    ∧ (after .scanCompletion (scannedIn .substituted (some (-1580)))).acq.pub.sump.working = some (-1780)
    ∧ (after .scanCompletion (scannedIn .held (some (-3000)))).acq.pub.sump.working = some (-3000)
    ∧ (after .scanCompletion { scanned 11334 with disp := .afterReset (some [1, 2, 3]) }).disp.table
        = some ⟨some ⟨800, 313⟩, some ⟨800, 313⟩, some ⟨800, 313⟩, none⟩
    ∧ ({ State.reset with acq := { Acquisition.reset with scan := some 7 } } : State).ctl.config = none
    ∧ (let s : State := { live with disp := .afterReset none }
      s.disp.table = none ∧ s.fitted .p2 = true ∧ s.fitted .p4 = false ∧ s.qmax .p2 = 1000 ∧ s.qmin .p2 = 391)
    ∧ live.disp.table.bind (quadGet · .p2) = some ⟨800, 313⟩
    ∧ (List.replicate 8 11334).length = 8 ∧ (List.replicate 7 11334).length ≠ 8
    ∧ (after .scanCompletion { scanned 11334 with
        sched := .reset, ctl := { live.ctl with step := .selftest } }).sched.riverSide = none
    ∧ (after .scanCompletion (scanned 11334)).sched.riverSide = some .below := by
  refine ⟨fun x h => ⟨rfl, rfl, rfl⟩, ?_⟩; decide +kernel

/-- `scanned` with the lockout set. -/
def locked (sump : Nat) : State := { scanned sump with disp := { live.disp with lockout := true } }

theorem witness_DryRunLockoutSetsHoldsAndClears :
    (scanned 6667).acq.scan = some 7 ∧ (scanned 6667).ctl.config = some demoConfig
      ∧ (scanned 6667).disp.lockout = false ∧ (scanned 6667).turning .p2 = true
      ∧ (after .scanCompletion (scanned 6667)).acq.pub.sump.working = some (-5000)
      ∧ (after .scanCompletion (scanned 6670)).acq.pub.sump.working = some (-4999)
      ∧ (locked 7200).disp.lockout = true
      ∧ (after .scanCompletion (locked 7200)).acq.pub.sump.working = some (-4800)
      ∧ (after .scanCompletion (locked 7199)).acq.pub.sump.working = some (-4801) := by decide +kernel

/-- `scanned` with P2's current and counts given, and P2 in a state. -/
def watched (ic : Nat) (w : Watch) (x : ChanState) : State :=
  { scanned 11334 with
    acq := { (scanned 11334).acq with currents := { live.acq.currents with p2 := steadyCurrent ic } }
    chans := { live.chans with p2 := autoTurning x 1022 }
    sup := { live.sup with watch := ⟨.reset, w, .reset, .reset⟩ } }

theorem witness_SupervisionCountsAndLatchesByTheDeglitchRun :
    (watched 18416 ⟨4, 0, 0, none⟩ .running).acq.scan = some 7 ∧ (quadGet demoConfig.pumps .p2).fitted = true
      ∧ demoConfig.dryRun < -3250
      ∧ (quadGet (after .scanCompletion (watched 18416 ⟨4, 0, 0, none⟩ .running)).sup.watch .p2).latch = some .overcurrent
      ∧ (quadGet (after .scanCompletion (watched 18416 ⟨3, 0, 0, none⟩ .running)).sup.watch .p2) = ⟨4, 0, 0, none⟩
      ∧ (quadGet (after .scanCompletion (watched 5584 ⟨0, 0, 4, none⟩ .running)).sup.watch .p2).latch = some .underload
      ∧ (quadGet (after .scanCompletion (watched 18416 ⟨2, 2, 2, none⟩ .stopping)).sup.watch .p2) = ⟨3, 0, 0, none⟩
      ∧ (quadGet (after .scanCompletion (watched 5584 ⟨0, 0, 3, none⟩ .stopping)).sup.watch .p2) = Watch.reset
      ∧ (after .scanCompletion (watched 18416 ⟨4, 0, 0, none⟩ .running)).sup.offered = ⟨none, none, none, none⟩ := by
  decide +kernel

/-- A latch taken in STOPPING forms n_t for the pump that runs on: 600 × 1022 / 800 = 766 (R163; figure of 6.5, Running down). -/
theorem test_a_latch_in_stopping_forms_the_speed_target :
    let s (oc : Nat) : State :=
      { watched 18416 ⟨oc, 0, 0, none⟩ .stopping with
        chans := { live.chans with p1 := autoTurning .running 900, p2 := autoTurning .stopping 830, p3 := autoIn .idle }
        alloc := { live.alloc with qTgt := 600 }, disp := { live.disp with nt := some 1022 } }
    (after .scanCompletion (s 4)).chanState .p2 = some .fault ∧ (after .scanCompletion (s 4)).disp.nt = some 766
      ∧ (after .scanCompletion (s 3)).disp.nt = some 1022 := by decide +kernel

/-- A state with overcurrent latches on their way to P1 and P2. -/
def onItsWay (s : State) : State :=
  { s with sup := { s.sup with offered := ⟨some .overcurrent, some .overcurrent, none, none⟩ } }

/-- With an event of the same instant waiting next, the free value tells which is taken first (R148). -/
theorem test_a_latch_may_wait_for_the_event_of_its_instant :
    let w (c : Instr) : Bool := State.latchWaits { watched 18416 ⟨4, 0, 0, none⟩ .stopping with pending := [c] } .p2
    w .clearFaults = Config.latchWaits 2 500 ∧ w (.faultResetSample true) = Config.latchWaits 2 500
      ∧ w (.faultResetSample false) = false ∧ w .slewTimerExpiry = false ∧ w (.startWindowExpiry .p2) = false
      ∧ w .allocationCompletion = false ∧ w .status = false := by
  refine ⟨rfl, rfl, rfl, rfl, rfl, rfl, rfl⟩

/-- A CLEAR FAULTS executed by the CR of its line, or at the end of a response, meets a latch as well (R165, R184). -/
theorem test_a_clear_by_its_line_meets_a_latch :
    let m (b : List Byte) (held : Option CompletedLine) (r : Option Response) (c : Instr) : Bool :=
      meetsLatch { live with maint := ⟨b, false, held, r⟩ } .p2 c
    let line := chars "CLEAR FAULTS"
    m line none none (.characterReceived 0x0D#8 false) = true ∧ m line none none (.characterReceived 0x0D#8 true) = false
      ∧ m line none none (.characterReceived 0x0A#8 false) = false
      ∧ m line none (some .ok) (.characterReceived 0x0D#8 false) = false
      ∧ m (chars "CLEAR LINE") none none (.characterReceived 0x0D#8 false) = false
      ∧ m [] (some (.request .clearFaults)) (some .ok) .responseEnd = true
      ∧ m [] (some (.request .status)) (some .ok) .responseEnd = false ∧ m [] none (some .ok) .responseEnd = false := by
  decide +kernel

/-- `live` at a scan that takes the river above S_close, with the coordination state and the spacing timer given. -/
def crossing (coord : CoordState) (spacing : Timer) : State :=
  { live with
    acq := { live.acq with scan := some 7, river := steadyLevel 14000 }
    sched := { live.sched with coord := some coord, spacingTimer := spacing } }

/-- `live` at a scan completion with P1 in LOCAL, not yet judged. -/
def unjudged : State := { scanned 11334 with chans := { live.chans with p1 := { autoIn .inLocal with mode := some .hand } } }

/-- A state in LEAVING with the port in a given state, P2 as it is and the other channels IDLE. -/
def leavingWith (x : PortState) (s : State) : State :=
  { s with
    sched := { s.sched with coord := some .leaving }, port := { s.port with state := x }
    chans := { s.chans with p1 := autoIn .idle, p3 := autoIn .idle } }

theorem witness_ARiverCrossingIsAPromptCause :
    (∀ x, (crossing .coordinating x).acq.scan = some 7 ∧ (crossing .coordinating x).ctl.config = some demoConfig
      ∧ (crossing .coordinating x).reporting = true ∧ (crossing .leaving x).reporting = true
      ∧ (crossing .coordinating x).sched.riverSide = some .below ∧ (crossing .coordinating x).sched.spacingTimer = x)
    ∧ live.own ≤ live.view.records.length
    ∧ (after .scanCompletion (crossing .coordinating (some 250))).sched.prompt = true
    ∧ (after .scanCompletion (crossing .leaving (some 250))).sched.prompt = true
    ∧ (after .scanCompletion (crossing .leaving none)).port.queue.stage.map (·.river) = some 2812
    ∧ (after .scanCompletion { crossing .coordinating none with
        port := { live.port with tx := some ⟨.stage demoStage, false⟩ } }).sched.prompt = true
    ∧ (after .scanCompletion (watched 18416 ⟨4, 0, 0, none⟩ .running)).sched.counter = 59
    ∧ (after .scanCompletion (leavingWith .active (watched 18416 ⟨4, 0, 0, none⟩ .running))).port.queue.quit = some ⟨1, 58⟩
    ∧ (after .scanCompletion (leavingWith .mute (watched 18416 ⟨4, 0, 0, none⟩ .running))).sched.coord = some .left
    ∧ (after .scanCompletion unjudged).port.queue.stage.map (·.eHand) = some 800
    ∧ (after .scanCompletion (scanned 11334)).sched.counter = 58 := by
  refine ⟨fun x => ⟨rfl, rfl, rfl, rfl, rfl, rfl⟩, ?_⟩; decide +kernel

/-- `live` with P2 in FAULT. -/
def faulted : State :=
  { live with
    chans := { live.chans with p2 := autoIn .fault }
    sup := { live.sup with watch := ⟨.reset, { Watch.reset with latch := some .overcurrent }, .reset, .reset⟩ } }

theorem witness_AnEdgeOrClearFaultsClearsTheLatches :
    NoneOffered faulted ∧ faulted.ctl.resetHeld = false ∧ faulted.sup.level = some false ∧ faulted.sup.samples.take 4 = [true, true, true, true]
      ∧ faulted.isIn .p2 .fault = true ∧ faulted.isIn .p1 .fault = false ∧ faulted.portOpen = true
      ∧ faulted.maint.held = none ∧ faulted.maint.response = none
      ∧ (after (.faultResetSample true) faulted).chanState .p2 = some .resting
      ∧ faulted.reporting = true
      ∧ (after (.faultResetSample true) { faulted with
          chans := { live.chans with p2 := { autoIn .fault with mode := some .hand } } }).port.queue.stage.map (·.eHand)
          = some 800 := by decide +kernel

/-- `live` with given frames queued. -/
def queued (q : TxQueue) : State := { live with port := { live.port with queue := q } }

theorem witness_ASlotBeginsTheFirstQueuedFrame :
    (∀ q, (queued q).port.state = .active ∧ (queued q).port.tx = none ∧ (queued q).port.sync = false)
    ∧ isSlot live.own live.port.lastSender 18 = true ∧ isSlot live.own live.port.lastSender 114 = true
    ∧ (after (.slotStart 18 false) (queued ⟨some ⟨1, 0, 0, 9⟩, some demoStage, none⟩)).port.tx
        = some ⟨.start ⟨1, 0, 0, 9⟩, false⟩
    ∧ (after (.slotStart 18 false) (queued ⟨none, some demoStage, some ⟨1, 57⟩⟩)).port.tx = some ⟨.stage demoStage, false⟩
    ∧ (after (.slotStart 114 false) (queued ⟨none, none, some ⟨1, 57⟩⟩)).port.tx = some ⟨.quit ⟨1, 57⟩, false⟩
    ∧ (queued ⟨none, none, some ⟨1, 57⟩⟩).port.queue ≠ .empty ∧ (queued .empty).port.queue = .empty := by
  refine ⟨fun q => ⟨rfl, rfl, rfl⟩, ?_⟩; decide +kernel

/-- `live` sending a frame. -/
def sending (f : Frame) (withdrawn : Bool) : State :=
  { noticed .onLine 900 with port := { live.port with tx := some ⟨f, withdrawn⟩, idle := none } }

theorem witness_AContentionLossReturnsOrDiscardsTheFrame :
    (∀ f w, (sending f w).port.tx = some ⟨f, w⟩ ∧ (sending f w).port.queue.start = none
      ∧ (sending f w).port.queue.stage = none ∧ (sending f w).port.queue.quit = none
      ∧ (sending f w).sched.prompt = false ∧ (sending f w).sched.spacingTimer = none ∧ (sending f w).reporting = true
      ∧ (sending f w).port.state = .active ∧ (∀ n, (sending f w).arb.notice = some n → n.number = 9))
    ∧ (after .contentionLoss (sending (.start ⟨1, 900, 450, 9⟩) false)).port.queue.start = some ⟨1, 900, 450, 9⟩
    ∧ (after .contentionLoss (sending (.start ⟨1, 900, 450, 9⟩) false)).arb.notice.map (·.phase) = some .queued
    ∧ (after .contentionLoss { sending (.stage demoStage) false with
        sched := { live.sched with prompt := true } }).port.queue.stage.map (·.number) = some 58 := by
  refine ⟨fun f w => ⟨rfl, rfl, rfl, rfl, rfl, rfl, rfl, rfl, ?_⟩, ?_⟩
  · intro n h; cases h; rfl
  · decide +kernel

theorem witness_LineFaultIsEnteredOnAStuckLineOrADriveFailure :
    (portIn .listen).port.state = .listen ∧ (queued ⟨some ⟨1, 900, 450, 9⟩, none, none⟩).port.state = .active
      ∧ (portIn .mute).port.state = .mute ∧ (sending (.quit ⟨1, 57⟩) false).port.tx.isSome = true
      ∧ (after (.stuckLine (some (received stageWord))) { noticed .queued 900 with
          port := { live.port with queue := ⟨some ⟨1, 900, 450, 9⟩, none, none⟩ } }).arb.holdOff = some 3000
      ∧ (after (.driveFailure none) { sending (.quit ⟨1, 57⟩) false with
          sched := { live.sched with coord := some .leaving } }).sched.coord = some .left
      ∧ (let s : State := { noticed .queued 900 with
            port := { live.port with queue := ⟨some ⟨1, 900, 450, 9⟩, none, none⟩, lossCount := 16 } }
        s.receives = true ∧ checkFrame false (received quitWord) = .good 7 (.quit ⟨1, 57⟩)
          ∧ checkFrame false (received startWord) = .good 3 (.start ⟨2, 800, 450, 5⟩) ∧ 3 ≠ s.own
          ∧ (after (.startNoticeReceived (received startWord)) s).port.state = .lineFault
          ∧ (after (.startNoticeReceived (received startWord)) s).arb.holdOff = some 3000
          ∧ (after (.startNoticeReceived (received startWord)) s).arb.notice.map (·.phase) = some .holding
          ∧ (after (.badFrame (received [0x33, 7])) s).port.state = .lineFault)
      ∧ (∃ p w, (sending (.stage demoStage) false).port.tx = some ⟨.stage p, w⟩) := by
  refine ⟨?_, ?_, ?_, ?_, ?_, ?_, ?_, ⟨_, _, rfl⟩⟩ <;> decide +kernel

theorem witness_ACompletedTransmissionIsReportedToItsBlock :
    (sending (.start ⟨1, 900, 450, 9⟩) false).port.tx = some ⟨.start ⟨1, 900, 450, 9⟩, false⟩
      ∧ (sending (.start ⟨1, 900, 450, 9⟩) false).arb.notice = some (demoNotice .onLine 900)
      ∧ (demoNotice .onLine 900).number = 9
      ∧ (after .transmissionComplete (sending (.start ⟨1, 900, 450, 9⟩) false)).arb.holdOff = some 3000
      ∧ (after .transmissionComplete (sending (.stage demoStage) false)).sched.spacingTimer = some 250
      ∧ (after .transmissionComplete { sending (.quit ⟨1, 57⟩) false with
          sched := { live.sched with coord := some .leaving } }).sched.coord = some .left := by decide +kernel

theorem witness_AGoodStageRefreshesTheSendersRecord :
    live.receives = true ∧ checkFrame false (received stageWord) = .good 3 (.stage demoStage) ∧ 3 ≠ live.own
      ∧ live.port.lossCount < 16 ∧ live.view.records.length = 24
      ∧ (after (.stageReportReceived (received stageWord)) live).record 3 =
          { status := .fresh, mismatch := true, report := some demoStage, lastNumber := 58, age := 0
            missed := 225, pending := none } := by decide +kernel

/-- `live` as station 3 sees station 7's QUIT: the same view with the own number 3. -/
def asThree : State := { live with ctl := { live.ctl with config := some { demoConfig with station := 3 } } }

theorem witness_AGoodQuitSetsTheSendersRecordToQuit :
    asThree.receives = true ∧ checkFrame false (received quitWord) = .good 7 (.quit ⟨1, 57⟩) ∧ 7 ≠ asThree.own
      ∧ asThree.port.lossCount < 16 ∧ asThree.view.records.length = 24
      ∧ ((after (.quitNoticeReceived (received quitWord)) asThree).record 7).status = .quit := by decide +kernel

theorem witness_AGoodStartIsHeldAndRanked :
    checkFrame false (received startWord) = .good 3 (.start ⟨2, 800, 450, 5⟩) ∧ 3 ≠ live.own ∧ 1 ≤ live.own
      ∧ live.arb.notice = none ∧ live.receives = true ∧ (noticed .queued 801).receives = true
      ∧ (noticed .queued 801).arb.notice = some (demoNotice .queued 801)
      ∧ (noticed .queued 800).arb.notice = some (demoNotice .queued 800)
      ∧ (noticed .queued 800).isIn .p1 .notice = true ∧ 3 < live.own
      ∧ ((after (.startNoticeReceived (received startWord)) (noticed .queued 801)).record 3).pending
          = some ⟨2, 450, 800, 5, 130, true⟩
      ∧ (after (.startNoticeReceived (received startWord)) (noticed .queued 800)).arb.notice = none := by decide +kernel

theorem witness_ABadFrameIsCountedAndAnOwnNumberMutes :
    live.receives = true ∧ live.port.lossCount < 16 ∧ checkFrame false (received [0x33, 7]) = .bad .framing
      ∧ checkFrame false (received quitWord) = .good live.own (.quit ⟨1, 57⟩)
      ∧ (after (.quitNoticeReceived (received quitWord)) live).port.state = .mute
      ∧ (after (.quitNoticeReceived (received quitWord)) { noticed .queued 900 with
          port := { live.port with queue := ⟨some ⟨1, 900, 450, 9⟩, none, none⟩ } }).arb.holdOff = some 3000
      ∧ (after (.badFrame (received [0x33, 7])) live).port.firstError = some ⟨.framing, none, 0x33, 0⟩ := by decide +kernel

theorem witness_EveryFrameIsReadAsItWasSent :
    (demoStage.number < 256 ∧ (-32768 ≤ demoStage.polder ∧ demoStage.polder ≤ 32767)
      ∧ (-32768 ≤ demoStage.river ∧ demoStage.river ≤ 32767)
      ∧ ∀ x ∈ [demoStage.urgency, demoStage.demand, demoStage.cav, demoStage.eAuto, demoStage.eHand, demoStage.runPower,
          demoStage.instPower, demoStage.share, demoStage.digest], x < 65536)
    ∧ frameBytes 3 (.stage demoStage) = stageWord ∧ frameBytes 3 (.start ⟨2, 800, 450, 5⟩) = startWord
    ∧ frameBytes 7 (.quit ⟨1, 57⟩) = quitWord := by decide +kernel

theorem witness_ContentionPrefersStartThenStageThenTheLowerBit :
    kindCode (.start ⟨2, 800, 450, 5⟩) = 0x22 ∧ kindCode (.stage demoStage) = 0x11 ∧ kindCode (.quit ⟨1, 57⟩) = 0x33
      ∧ (3 : Nat).testBit 1 = true ∧ (1 : Nat).testBit 1 = false ∧ (∀ j, j < 1 → (3 : Nat).testBit j = (1 : Nat).testBit j)
      ∧ (24 : Nat).testBit 4 = true ∧ (8 : Nat).testBit 4 = false := by decide

/-- A station at the end of its join listen. -/
def joining : State :=
  { live with
    port := { live.port with state := .listen }
    sched := ⟨some .joining, some 6000, none, none, false, 58, true, none, false⟩
    alloc := .reset, chans := ⟨autoIn .idle, autoIn .idle, autoIn .idle, unfitted⟩ }

theorem witness_TheEndOfTheListenStartsCoordination :
    joining.sched.coord = some .joining ∧ joining.sched.listenTimer.isSome = true ∧ joining.acq.pub.head = some 5000
      ∧ 1 ≤ joining.own ∧ joining.own ≤ joining.view.records.length
      ∧ (after .listenTimerExpiry joining).port.queue.stage.map (·.number) = some 58 := by decide +kernel

/-- `live` with the spacing timer running and a prompt pending or not. -/
def spaced (prompt : Bool) : State := { live with sched := { live.sched with spacingTimer := some 250, prompt := prompt } }

theorem witness_ReportAndSpacingTimersComposeReports :
    live.reporting = true ∧ live.sched.reportTimer.isSome = true ∧ (spaced true).sched.spacingTimer.isSome = true
      ∧ (spaced true).reporting = true ∧ (spaced true).sched.prompt = true ∧ (spaced false).sched.prompt = false := by decide

/-- A peer record at the age that ends its status, with a pending start in its given last units. -/
def atBoundary (status : RecordStatus) (age left : Nat) : PeerRecord :=
  { peer status 0 0 0 0 0 with age := age, pending := some ⟨1, 1, 1, 1, left, false⟩ }

/-- A view with a record at each boundary of its age, and pending starts at their last and last but one unit. -/
def ageing : State :=
  { live with view := { live.view with
      records := (demoRecords.set 2 (atBoundary .fresh 40 1)).set 4 (atBoundary .aged 100 2) } }

theorem witness_AgeingDerivesTheStatusAndCountsPendingStartsDown :
    ageing.view.ageingTimer.isSome = true ∧ ageing.view.records.length = 24
      ∧ ((after .ageingTimerExpiry ageing).record 3).status = .aged ∧ ((after .ageingTimerExpiry ageing).record 3).pending = none
      ∧ ((after .ageingTimerExpiry ageing).record 5).status = .lost
      ∧ ((after .ageingTimerExpiry ageing).record 5).pending = some ⟨1, 1, 1, 1, 1, false⟩
      ∧ ((after .ageingTimerExpiry ageing).record 7).status = .self := by decide +kernel

theorem witness_TheAllocationTimerTakesOneSnapshot :
    live.reporting = true
      ∧ (let s : State := { live with disp := { live.disp with hand := ⟨true, false, false, false⟩ } }
        s.disp.eHand = 0 ∧ (after .allocationTimerExpiry s).disp.eHand = 800
          ∧ (after .allocationTimerExpiry s).port.queue.stage.map (·.eHand) = some 800)
      ∧ live.alloc.timer.isSome = true ∧ live.acq.pub.head = some 5000 ∧ live.fitted .p1 = true ∧ live.fitted .p4 = false := by
  decide +kernel

theorem witness_TheCompletionPublishesTheComputationOfItsSnapshot :
    computing.alloc.snapshot = some (takeSnapshot live) ∧ NoneOffered computing ∧ computing.reporting = true
      ∧ ({ computing with sched := { live.sched with coord := some .left } } : State).reporting = false := by
  refine ⟨rfl, ?_⟩; decide

theorem witness_TheGoverningStageIsTheHighestCandidate :
    (takeSnapshot live).river = some 1750
      ∧ candidates { takeSnapshot live with river := none, records := List.replicate 24 .absent } = []
      ∧ live.allow.known = true ∧ live.allow.stage.isSome = true ∧ Allowance.reset.known = false := by decide +kernel

theorem witness_TheAllowanceFallsFromTheFreeToTheClosureStage :
    validate 7 demoImage = none ∧ demoConfig.sFree < demoConfig.sClose ∧ (1200 : Int) ≤ demoConfig.sFree
      ∧ demoConfig.sClose ≤ (2600 : Int) ∧ demoConfig.sFree < 1201 ∧ (2599 : Int) < demoConfig.sClose
      ∧ allowanceAt demoConfig 1201 = 8993 ∧ allowanceAt demoConfig 2599 = 6
      ∧ allowanceAt { demoConfig with aFull := 1399 } 2599 = 0 := by
  simp only [validate_go]; decide +kernel

theorem witness_UrgencyCapacityAndDemandOfASnapshot :
    demoConfig.target < demoConfig.alarm ∧ (takeSnapshot live).degraded = false ∧ (takeSnapshot live).level = some (-1580)
      ∧ urgencyAt demoConfig (-2400) = 0 ∧ urgencyAt demoConfig (-2399) = 1 ∧ urgencyAt demoConfig (-1601) = 998
      ∧ urgencyAt demoConfig (-1600) = 1000 ∧ isolatedIn (takeSnapshot live) = true
      ∧ (evaluate demoConfig (takeSnapshot live) live.allow).stage = some 1820 ∧ (1820 : Int) < demoConfig.sClose
      ∧ (evaluate demoConfig (takeSnapshot live) live.allow).net = some 3864
      ∧ demoConfig.station ≤ (takeSnapshot live).records.length
      ∧ (members 7 1000 2400 demoRecords).map (·.station) = [3, 5, 7, 14] := by
  decide +kernel

theorem witness_TheGrantsUseTheNetAllowanceToTheLastUnit :
    demandSum [⟨4, 600, 500⟩, ⟨6, 600, 500⟩] ≤ 1000 ∧ 999 < demandSum [⟨4, 600, 500⟩, ⟨6, 600, 500⟩]
      ∧ 0 < weightSum [⟨4, 600, 500⟩, ⟨6, 600, 500⟩] ∧ weightSum [⟨4, 0, 500⟩] = 0
      ∧ (⟨⟨4, 600, 500⟩, 500⟩ : Granted) ∈ grants 999 [⟨4, 600, 500⟩, ⟨6, 600, 500⟩]
      ∧ (grants 601 [⟨4, 0, 500⟩, ⟨6, 0, 500⟩]).map (·.grant) = [500, 101] := by decide +kernel

theorem witness_DischargeFallsFromTheRatedToTheShutOffHead :
    (quadGet (configOf demoImage).pumps .p1).fitted = true ∧ demoPump.hr < demoPump.hsh ∧ demoPump.hsh ≤ 65535
      ∧ demoPump.qr ≤ 4000 ∧ 100 ≤ demoPump.nmin ∧ demoPump.nmin ≤ 1022 ∧ fullDischarge demoPump 4000 = 1000
      ∧ fullDischarge demoPump 4001 = 999 ∧ fullDischarge demoPump 8999 = 0 ∧ fullDischarge demoPump 9000 = 0
      ∧ live.acq.pub.head = some 5000 ∧ live.fitted .p2 = true ∧ (formTable live).qmin .p2 = 313 := by
  decide +kernel

/-- `computing` with a lower polder level, so that the share is 0. -/
def slack : State :=
  { noticed .holding 900 with alloc := { live.alloc with
      snapshot := some { takeSnapshot live with level := some (-2400) } } }

theorem witness_AZeroTargetStopsEveryPump :
    slack.alloc.snapshot.isSome = true ∧ NoneOffered slack ∧ slack.reporting = true ∧ slack.inR .p2 = true ∧ slack.isIn .p1 .notice = true
      ∧ slack.arb.notice = some (demoNotice .holding 900) ∧ (after .allocationCompletion slack).alloc.qTgt = 0
      ∧ (after .allocationCompletion slack).chanState .p1 = some .idle
      ∧ (after .allocationCompletion slack).chanState .p2 = some .stopping := by decide +kernel

theorem witness_AStartIsRequestedWhenTheRunningSetIsShort :
    computing.sched.coord = some .coordinating ∧ NoneOffered computing ∧ computing.disp.eHand = eHandOf computing
      ∧ quadGet computing.disp.hand .p1 = false ∧ computing.disp.rotation = some ([] ++ chanNum .p1 :: [2, 3])
      ∧ computing.isIn .p1 .idle = true
      ∧ computing.disp.crun < (after .allocationCompletion computing).alloc.qTgt ∧ 0 < computing.qmax .p1
      ∧ computing.inR .p2 = true ∧ computing.disp.lockout = false ∧ guardHolds computing = true
      ∧ powerHolds computing .p1 = true
      ∧ (after .allocationCompletion { computing with port := { live.port with state := .mute } }).arb.holdOff = some 3000
      ∧ (after .allocationCompletion { computing with disp := { live.disp with lockout := true } }).arb.notice = none := by
  decide +kernel

/-- `computing` at a polder level that calls for one pump, with P2 and P3 RUNNING. -/
def lighter (level : Int) : State :=
  { live with alloc := { live.alloc with snapshot := some { takeSnapshot live with level := some level } } }

theorem witness_APumpIsTakenOutWhenFewerCanCarryTheTarget :
    (lighter (-2200)).reporting = true ∧ NoneOffered (lighter (-2200)) ∧ (lighter (-2200)).disp.rotation = some ([1] ++ chanNum .p2 :: [3])
      ∧ (lighter (-2200)).isIn .p2 .running = true ∧ (lighter (-2200)).isIn .p1 .running = false
      ∧ (lighter (-2200)).inR .p2 = true ∧ (lighter (-2200)).inR .p3 = true
      ∧ 0 < (after .allocationCompletion (lighter (-2200))).alloc.qTgt
      ∧ (after .allocationCompletion (lighter (-2200))).alloc.qTgt ≤ (lighter (-2200)).disp.crun
      ∧ (after .allocationCompletion (lighter (-2200))).chanState .p2 = some .stopping
      ∧ (after .allocationCompletion (lighter (-2000))).chanState .p2 = some .running
      ∧ (after .allocationCompletion (lighter (-2000))).disp.nt.isSome = true := by decide +kernel

/-- A notice whose hold-off runs, with Crun as given. -/
def holding (crun : Nat) : State := { noticed .holding 900 with disp := { live.disp with crun := crun } }

theorem witness_TheHoldOffEndsInAStartOrInIdle :
    (holding 2257).arb.notice = some (demoNotice .holding 900) ∧ (holding 2257).arb.holdOff.isSome = true
      ∧ (holding 2257).isIn .p1 .notice = true ∧ feederSum (holding 2257) .p1 ≤ min demoConfig.pFeed 60000
      ∧ (holding 2257).disp.crun < (holding 2257).alloc.qTgt
      ∧ (after .holdOffExpiry (holding 2257)).chanState .p1 = some .starting
      ∧ (after .holdOffExpiry (holding 2257)).disp.rotation = some [2, 3, 1]
      ∧ (after .holdOffExpiry (holding 2258)).chanState .p1 = some .idle := by decide +kernel

/-- `live` with P1 STARTING, P2 RUNNING and P3 STOPPING at a reference, and n_t given. -/
def slewing (n2 n3 nt : Nat) : State :=
  { live with
    chans := ⟨{ autoTurning .starting 400 with window := some 10000 }, autoTurning .running n2, autoTurning .stopping n3, unfitted⟩
    disp := { live.disp with nt := some nt } }

theorem witness_TheSlewMovesReferencesByAtMostOneStep :
    (slewing 900 420 961).disp.slewTimer.isSome = true ∧ NoneOffered (slewing 900 420 961) ∧ (slewing 900 420 961).disp.nt = some 961
      ∧ ((after .slewTimerExpiry (slewing 950 420 961)).chan .p2).reference = 961
      ∧ ((after .slewTimerExpiry (slewing 1000 420 961)).chan .p2).reference = 980
      ∧ (after .slewTimerExpiry (slewing 900 420 961)).chanState .p3 = some .resting
      ∧ ((after .slewTimerExpiry (slewing 900 421 961)).chan .p3).reference = 401
      ∧ (after .slewTimerExpiry { slewing 900 420 961 with
          ctl := { live.ctl with config := some { demoConfig with tRest := 0 } } }).chanState .p3 = some .idle
      ∧ (let s : State := leavingWith .active { live with chans := { live.chans with p2 := autoTurning .stopping 420 } }
        s.sched.coord = some .leaving ∧ s.sched.quitOffered = false
          ∧ (after .slewTimerExpiry s).port.queue.quit = some ⟨1, 57⟩ ∧ (after .slewTimerExpiry s).sched.quitOffered = true)
      ∧ (after .slewTimerExpiry (leavingWith .active live)).sched.quitOffered = false := by
  decide +kernel

/-- `live` with P1 STARTING and a published current for it. -/
def windowed (i : Option Nat) : State :=
  { slewing 1022 1022 1022 with
    acq := { live.acq with pub := { live.acq.pub with currents := { live.acq.pub.currents with p1 := ⟨.good, i, some 9000⟩ } } } }

/-- It takes the channel out of RUNNING, leaves NO_START as it is, and outlasts a clear (R148, R162, R165). -/
theorem test_a_latch_on_its_way_arrives_after_the_event :
    (after (.startWindowExpiry .p1) (onItsWay (windowed (some 100)))).chanState .p1 = some .fault
      ∧ (quadGet (after (.startWindowExpiry .p1) (onItsWay (windowed (some 100)))).sup.watch .p1).latch = some .overcurrent
      ∧ (quadGet (after (.startWindowExpiry .p1) (onItsWay (windowed (some 99)))).sup.watch .p1).latch = some .noStart
      ∧ (after .clearFaults (onItsWay live)).chanState .p2 = some .fault
      ∧ (after (.characterReceived 0x0D#8 false)
          (onItsWay { live with maint := ⟨chars "CLEAR FAULTS", false, none, none⟩ })).chanState .p2 = some .fault
      ∧ (after .responseEnd (onItsWay
          { live with maint := ⟨[], false, some (.request .clearFaults), some .ok⟩ })).chanState .p2 = some .fault
      ∧ (after .clearFaults (onItsWay live)).chanState .p1 = some .idle := by decide +kernel

theorem witness_TheStartWindowAndTheRestEnd :
    NoneOffered (windowed none) ∧ (∀ i, (windowed i).isIn .p1 .starting = true ∧ ((windowed i).chan .p1).window.isSome = true ∧ (windowed i).current .p1 = i)
    ∧ (after (.startWindowExpiry .p1) (windowed (some 100))).chanState .p1 = some .running
    ∧ (after (.startWindowExpiry .p1) (windowed none)).chanState .p1 = some .running
    ∧ (after (.startWindowExpiry .p1) (windowed (some 99))).chanState .p1 = some .fault
    ∧ (windowed (some 99)).reporting = true ∧ (after (.startWindowExpiry .p1) (windowed (some 99))).sched.counter = 59
    ∧ (let s : State := { live with chans := { live.chans with p1 := { autoIn .resting with rest := some 60000 } } }
      s.isIn .p1 .resting = true ∧ (s.chan .p1).rest.isSome = true
        ∧ (after (.restTimerExpiry .p1) s).chanState .p1 = some .idle)
    ∧ (let s : State := { windowed (some 99) with
        sched := { live.sched with coord := some .leaving }
        chans := { (windowed (some 99)).chans with p2 := autoIn .idle, p3 := autoIn .idle } }
      (after (.startWindowExpiry .p1) s).sched.quitOffered = true
        ∧ (after (.startWindowExpiry .p1) s).port.queue.quit = some ⟨1, 58⟩) := by
  refine ⟨rfl, fun i => ⟨rfl, rfl, rfl⟩, ?_⟩; decide +kernel

/-- `live` with the maintenance port in a given state. -/
def terminal (l : List Byte) (bad : Bool) (held : Option CompletedLine) (r : Option Response) : State :=
  { live with maint := ⟨l, bad, held, r⟩ }

theorem witness_CharactersFillTheLineUntilTheReturn :
    (∀ l b h r, (terminal l b h r).portOpen = true)
    ∧ chars "CAUSE" ≠ [] ∧ 0x20#8 ∉ chars "CAUSE"
    ∧ wordsOf (chars "  LOAD 14  F8 30 ") = [chars "LOAD", chars "14", chars "F8", chars "30"]
    ∧ readRequest [chars "LOAD", chars "14", chars "F8", chars "30"] = some (.load 14 [0xF8, 0x30])
    ∧ (List.replicate 63 0x41#8).length < 64 ∧ 64 ≤ (List.replicate 64 0x41#8).length
    ∧ readRequest (wordsOf (chars "CAUSE")) = some .cause ∧ readRequest (wordsOf (chars "CAUSES")) = none
    ∧ (∀ x ∈ ([0x20#8, 0x20#8] : List Byte), x = 0x20#8) ∧ ¬ (∀ x ∈ chars "CAUSE", x = 0x20#8)
    ∧ (after (.characterReceived 0x0D#8 false) (terminal (chars "CAUSE") true none none)).maint.response
        = some (.err .errSyntax none)
    ∧ (after (.characterReceived 0x0D#8 false) (terminal (chars "CAUSE") false none (some .ok))).maint.held
        = some (.request .cause)
    ∧ State.reset.portOpen = false := by
  refine ⟨fun l b h r => rfl, ?_⟩; decide +kernel

theorem witness_ALineThatArrivesDuringAResponseIsHeldToItsEnd :
    (terminal [] false none (some .ok)).portOpen = true ∧ (terminal [] false none (some .ok)).maint.response.isSome = true
      ∧ (terminal [] false none none).maint.response = none
      ∧ (terminal [] false (some (.request .cause)) (some .ok)).maint.held.isSome = true
      ∧ (terminal [] false (some .syntaxError) (some .ok)).maint.held = some .syntaxError := by decide

theorem witness_ReadRequestsAnswerFromTheStateAlone :
    live.portOpen = true ∧ live.maint.held = none ∧ live.maint.response = none ∧ live.fitted .p3 = true
      ∧ live.fitted .p4 = false ∧ live.disp.rotation = some ([1, 2] ++ 3 :: []) ∧ 3 ∉ [1, 2]
      ∧ (loading 7 0).portOpen = true ∧ (loading 7 0).ctl.config = none ∧ (loading 7 0).disp.table = none
      ∧ live.disp.table.bind (quadGet · .p3) = some ⟨800, 313⟩
      ∧ alarmCauses live = [] ∧ alarmOutput live = false ∧ alarmCauses faulted = [.fault]
      ∧ alarmCauses (portIn .mute) = [.port] := by decide +kernel

theorem witness_LeaveAndRejoinTakeTheStationOutAndBack :
    live.sched.coord = some .coordinating ∧ live.turning .p2 = true ∧ live.sched.spacingTimer = none ∧ live.port.tx = none
      ∧ (spaced false).sched.spacingTimer.isSome = true
      ∧ (after .leave (sending (.stage demoStage) false)).sched.prompt = true
      ∧ (let s : State := { live with chans := ⟨autoIn .notice, autoIn .idle, autoIn .idle, unfitted⟩
                                      arb := ⟨some (demoNotice .queued 900), none, 10⟩
                                      port := { live.port with queue := ⟨some ⟨1, 900, 450, 9⟩, none, none⟩ } }
        (after .leave s).port.queue.quit = some ⟨1, 58⟩ ∧ (after .leave s).arb.holdOff = some 3000
          ∧ (after .leave { s with port := { s.port with state := .mute } }).sched.coord = some .left)
      ∧ (let s : State := { live with sched := { live.sched with coord := some .left } }
        s.portOpen = true ∧ (after .rejoin s).sched.coord = some .joining ∧ (after .rejoin s).port.state = .listen)
      ∧ joining.sched.coord ≠ some .coordinating ∧ joining.sched.coord ≠ some .left := by decide +kernel

/-- A part in CONFIG_WAIT with a full buffer. -/
def waiting (station : Nat) : State :=
  { loading station 2 with ctl := { (loading station 2).ctl with step := .configWait, image := some demoImage } }

theorem witness_LoadWritesTheImageAndLoadEndJudgesIt :
    (waiting 7).portOpen = true ∧ (waiting 7).maint.held = none ∧ (waiting 7).maint.response = none
      ∧ (waiting 7).ctl.step = .configWait ∧ (waiting 7).ctl.image = some demoImage ∧ demoImage.length = 128
      ∧ 112 + (List.replicate 16 0#8).length ≤ 128 ∧ 128 < 113 + (List.replicate 16 0#8).length
      ∧ (waiting 7).view.records.length = 24 ∧ validate ((waiting 7).ctl.station.getD 0) demoImage = none
      ∧ validate ((waiting 6).ctl.station.getD 0) demoImage = some .station ∧ live.ctl.step ≠ .configWait := by
  simp only [validate_go]; decide +kernel

/-- A state in service that meets the premises of the six invariant statements, and from which a step answers next. -/
theorem witness_invariants :
    StartSequence live ∧ ChannelsConsistent live ∧ OneStartAtATime live ∧ ViewSound live ∧ RotationSound live
      ∧ SpeedsSound live ∧ ∃ t, step { live with pending := [.slewTimerExpiry] } = .next t := by
  refine ⟨?_, ?_, ?_, ?_, ?_, ?_, _, rfl⟩
  · constructor <;> first | decide | (intro h k; cases k <;> revert h <;> decide) | (intro k; cases k <;> decide)
  · intro k; cases k <;> constructor <;> decide
  · constructor
    · intro k; cases k <;> constructor <;> intro h <;> exact absurd h (by decide)
    · intro j k hj hk; cases j <;> exact absurd hj (by decide)
  · constructor
    · rfl
    · intro c h; cases h; decide
    · intro h; exact absurd h (by decide)
    · intro c n h h1 h2; cases h
      interval_cases n <;> decide
    · intro n h1 h2 h3
      interval_cases n <;> first | (exact absurd rfl h3) | skip
      all_goals constructor <;> first | decide | (intro p hp; cases hp)
      all_goals constructor <;> first | decide | (unfold storedLevel; decide)
  · intro _
    refine ⟨[1, 2, 3], rfl, by decide, ?_⟩
    intro n
    constructor
    · intro h; fin_cases h
      · exact ⟨.p1, by decide, rfl⟩
      · exact ⟨.p2, by decide, rfl⟩
      · exact ⟨.p3, by decide, rfl⟩
    · rintro ⟨k, hk, rfl⟩; cases k <;> first | decide | (exact absurd hk (by decide))
  · constructor
    · intro k h; cases k <;> first | decide | (exact absurd h (by decide))
    · intro k h; cases k <;> first | decide | (exact absurd h (by decide))
    · intro k h; cases k <;> first | (exact absurd h (by decide)) | exact ⟨1022, rfl, by decide, by decide⟩

end Sys2Proof.Tests
end

section
/-! PROOFS. The reset values and the end of CLOCKSTART (chapter 10). -/
namespace Sys2Proof.Machine

/-! ## Reset values (O3) -/

/-- Settles O3: each block of `State.reset` is read off; the records are the 24 copies of ABSENT. -/
theorem resetValuesAreThoseOfTheBlocks : Obligations.ResetValuesAreThoseOfTheBlocks := by
  unfold Obligations.ResetValuesAreThoseOfTheBlocks
  have levels : ∀ x ∈ [State.reset.acq.polder, State.reset.acq.sump, State.reset.acq.river],
      x = ⟨.init, [], 0, [], none, 0, none⟩ := by simp [State.reset, Acquisition.reset, LevelInput.reset]
  have records : ∀ r ∈ State.reset.view.records, r = ⟨.absent, false, none, 0, 0, 0, none⟩ :=
    fun r hr => List.eq_of_mem_replicate hr
  have causes : alarmCauses State.reset = [.startup, .level] := by decide
  have output : alarmOutput State.reset = true := by rw [alarmOutput, causes]; rfl
  refine ⟨rfl, rfl, rfl, rfl, rfl, rfl, rfl, rfl, rfl, rfl, rfl, rfl, levels, ?_, rfl, rfl, rfl, rfl, ?_, rfl, rfl, rfl, rfl,
    rfl, rfl, rfl, rfl, rfl, rfl, rfl, rfl, rfl, rfl, rfl, rfl, rfl, rfl, records, rfl, rfl, rfl, rfl, rfl, rfl, rfl, rfl, rfl,
    ?_, rfl, rfl, rfl, rfl, rfl, ?_, ?_, rfl, rfl, rfl, causes, output, rfl⟩
  all_goals intro k; cases k <;> rfl

/-! ## The end of CLOCKSTART (O6) -/

/-- The strap code 0, 1 is the one that leaves the image to the maintenance port (R175). -/
theorem sourceIsPort_iff (x : BitVec 2) : sourceIsPort x.toNat = true ↔ x = 1#2 := by
  simp [sourceIsPort, BitVec.toNat_eq]

/-- The controller after the straps have been sampled (R175). -/
theorem enterConfigLoad_eq (s : State) (st : Straps) :
    enterConfigLoad s st = s.setCtl (
      let c := { s.ctl with station := some st.stn.toNat, source := some st.csrc.toNat }
      if st.csrc = 1#2 then
        { c with image := some (List.replicate 128 0#8), reason := some .noImage, step := .configWait }
      else { c with step := .configLoad }) := by
  simp only [enterConfigLoad, sourceIsPort_iff]
  split <;> rfl

/-- A mute order is held while the port is OFF (R37). -/
theorem muteOrder_off (s : State) (h : s.port.state = .off) :
    muteOrder s = s.setPort { s.port with muteHeld := true } := by
  simp [muteOrder, h]

/-- Settles O6: either end of CLOCKSTART is taken, and the entry to CONFIG_LOAD is `enterConfigLoad_eq`. -/
theorem clockStartPassesToTheConfigurationLoad : Obligations.ClockStartPassesToTheConfigurationLoad := by
  intro st s held step off
  constructor
  · simp only [exec, execCrystalStart, held, step, endClockstart, enterConfigLoad_eq]
    rfl
  · simp only [exec, execClockStartWindowExpiry, held, step, endClockstart, enterConfigLoad_eq]
    rw [muteOrder_off _ (by simpa using off)]
    rfl

end Sys2Proof.Machine
end

section
/-! PROOFS. Scaling and the conversions of the loop inputs (sections 1.1 to 1.5). -/
namespace Sys2Proof.Machine

/-! ## Scaling (O16) -/

/-- A 16-bit figure of the image. -/
theorem u16At_lt (l : List Byte) (i : Nat) : u16At l i < 65536 := by
  have h1 : u8At l i < 256 := (l.getD i 0#8).isLt
  have h2 : u8At l (i + 1) < 256 := (l.getD (i + 1) 0#8).isLt
  unfold u16At; omega

/-- A signed figure of the image lies in the signed 16-bit range. -/
theorem s16At_bounds (l : List Byte) (i : Nat) : -32768 ≤ s16At l i ∧ s16At l i ≤ 32767 := by
  have h := u16At_lt l i
  unfold s16At; split <;> omega

/-- No check fails exactly when each one holds. -/
theorem firstFailure_none_iff (l : List (Bool × FailureReason)) :
    firstFailure l = none ↔ ∀ x ∈ l, x.1 = true := by
  induction l with
  | nil => simp [firstFailure]
  | cons x l ih =>
    obtain ⟨ok, r⟩ := x
    cases ok <;> simp [firstFailure, ih]

/-- An image that passes validation has each level input's high value above its low value (R177). -/
theorem validate_scaling (strap : Nat) (img : List Byte) (h : validate strap img = none) :
    s16At img 27 < s16At img 29 ∧ s16At img 31 < s16At img 33 ∧ s16At img 35 < s16At img 37 := by
  have check := (firstFailure_none_iff _).1 h (_, .scaling) (List.mem_of_getElem? (i := 5) rfl)
  simpa [and_assoc] using check

/-- The scaling figures of an accepted configuration are the image's (R190). -/
theorem configOf_scales (img : List Byte) :
    (configOf img).polder = ⟨s16At img 27, s16At img 29⟩ ∧ (configOf img).sump = ⟨s16At img 31, s16At img 33⟩
      ∧ (configOf img).river = ⟨s16At img 35, s16At img 37⟩ :=
  ⟨rfl, rfl, rfl⟩

/-- The clamps leave a pump block fitted or not, and bring the full scale of a fitted one to 4000 at most (R180). -/
theorem clampPump_fs (p : PumpBlock) (h : (clampPump p).fitted = true) : (clampPump p).fs ≤ 4000 := by
  unfold clampPump at h ⊢
  split at h
  · rw [if_pos ‹_›]; exact Nat.min_le_right _ _
  · contradiction

theorem configOf_pump (img : List Byte) (k : Chan) :
    quadGet (configOf img).pumps k = clampPump (readPump img k) := by
  cases k <;> rfl

/-- The level range bounds every clamped level (R3). -/
theorem clampLevel_bounds (v : Int) : -9999 ≤ clampLevel v ∧ clampLevel v ≤ 9999 := by
  unfold clampLevel; omega

/-- The span above the low value is within its product's bounds, for a span and a current above 4 mA (R3). -/
theorem span_product_bounds {d x : Int} (hd : 0 ≤ d) (hd' : d ≤ 65535) (hx : 0 ≤ x) (hx' : x ≤ 16000) :
    0 ≤ d * x ∧ d * x ≤ 131070 * 16000 :=
  ⟨mul_nonneg hd hx, mul_le_mul (by omega) hx' hx (by omega)⟩

/-- The scaled current is at most the full scale (R4). -/
theorem scaleCurrent_le (fs : Nat) {ic : Nat} (h : ic ≤ 20000) : scaleCurrent fs ic ≤ fs :=
  Nat.div_le_of_le_mul (by rw [mul_comm]; exact Nat.mul_le_mul_right _ (by omega))

/-- Settles O16: validation gives the ranges of the scalings, and the rest is the arithmetic of a floored quotient. -/
theorem levelsAndCurrentsScaleToTheirRanges : Obligations.LevelsAndCurrentsScaleToTheirRanges := by
  refine ⟨⟨?ranges, configOf_scales, ?level⟩, ?fullScale, ?current⟩
  case ranges =>
    intro strap img h sc hsc
    obtain ⟨polder, sump, river⟩ := validate_scaling strap img h
    have bounds := s16At_bounds img
    simp only [configOf_scales, List.mem_cons, List.not_mem_nil, or_false] at hsc
    rcases hsc with rfl | rfl | rfl
    · exact ⟨polder, (bounds 27).1, (bounds 29).2⟩
    · exact ⟨sump, (bounds 31).1, (bounds 33).2⟩
    · exact ⟨river, (bounds 35).1, (bounds 37).2⟩
  case level =>
    intro sc ic above low high from4 to20 q
    obtain ⟨nonneg, bounded⟩ := span_product_bounds (d := sc.hi - sc.lo) (x := (ic : Int) - 4000)
      (by omega) (by omega) (by omega) (by omega)
    have quotient : q = (sc.hi - sc.lo) * ((ic : Int) - 4000) / 16000 := rfl
    refine ⟨rfl, by omega, by omega, by omega, bounded, by norm_num, ?_, ?_, clampLevel_bounds _⟩
    · rintro rfl; simp [q]
    · rintro rfl; simp [q]
  case fullScale =>
    intro img k
    rw [configOf_pump]
    exact clampPump_fs _
  case current =>
    intro fs ic _ to20
    exact ⟨⟨_, Nat.mod_lt _ (by norm_num), (Nat.div_add_mod _ _).symm⟩, by rintro rfl; simp [scaleCurrent],
      scaleCurrent_le fs to20, by rintro rfl; simp [scaleCurrent]⟩

/-! ## Conversions (O15) -/

/-- A full window drops its oldest entry for the newest (R5). -/
theorem pushWindow_eq (w : List Nat) (ic : Nat) (h : w.length ≤ 8) :
    pushWindow w ic = (w ++ [ic]).drop (w.length + 1 - 8) ∧ (pushWindow w ic).getLast? = some ic := by
  unfold pushWindow
  split
  case isTrue room =>
    have : w.length + 1 - 8 = 0 := by simp only [Config.windowSize] at room; omega
    simp [this]
  case isFalse full =>
    have : w.length = 8 := by simp only [Config.windowSize] at full; omega
    simp [this, List.drop_append]

/-- Measuring a current at 25000 µA at most changes neither its being good nor its clamped value (R2). -/
theorem measured_reading (i : Nat) :
    goodConversion (measured i) = goodConversion i ∧ clampLoop (measured i) = clampLoop i := by
  unfold goodConversion clampLoop measured
  refine ⟨?_, by omega⟩
  rw [Bool.eq_iff_iff]; simp only [Bool.and_eq_true, decide_eq_true_eq]; omega

/-- A good conversion of a level input (R2, R6 to R9). -/
theorem convertLevel_good (scale : Option LevelScale) (x : LevelInput) {i : Nat} (h : goodConversion i = true) :
    convertLevel scale i x = levelGood { x with lastLoop := some (measured i) } (clampLoop i) := by
  simp [convertLevel, measured_reading, h]

/-- A bad conversion of a level input (R2, R6 to R9). -/
theorem convertLevel_bad (scale : Option LevelScale) (x : LevelInput) {i : Nat} (h : goodConversion i = false) :
    convertLevel scale i x = levelBad scale { x with lastLoop := some (measured i) } := by
  simp [convertLevel, measured_reading, h]

/-- Holding and recovering leave the last loop current (R8, R9). -/
theorem levelGood_lastLoop (x : LevelInput) (ic : Nat) : (levelGood x ic).lastLoop = x.lastLoop := by
  simp only [levelGood, levelRecovered, levelHold]
  repeat' split
  all_goals rfl

theorem levelBad_lastLoop (scale : Option LevelScale) (x : LevelInput) : (levelBad scale x).lastLoop = x.lastLoop := by
  simp only [levelBad, levelHold]
  repeat' split
  all_goals rfl

/-- Either kind of conversion leaves the measured current as the last loop current (R2). -/
theorem convertLevel_lastLoop (scale : Option LevelScale) (i : Nat) (x : LevelInput) :
    (convertLevel scale i x).lastLoop = some (min i 25000) := by
  cases h : goodConversion i
  · rw [convertLevel_bad _ _ h, levelBad_lastLoop]; rfl
  · rw [convertLevel_good _ _ h, levelGood_lastLoop]; rfl

/-- A conversion of a level input follows the rows of R6 to R9. -/
theorem convertLevel_transition (scale : Option LevelScale) (i : Nat) (x : LevelInput) :
    LevelTransition scale i x (convertLevel scale i x) where
  lastLoop := convertLevel_lastLoop scale i x
  initGood good init := by
    rw [convertLevel_good _ _ good]
    refine ⟨?_, ?_, ?_⟩ <;> simp only [levelGood, init]
    rfl
  initBad bad init few := by
    simp [convertLevel_bad _ _ bad, levelBad, init, Config.badLimit, few.not_ge]
  initThird bad init third := by
    simp [convertLevel_bad _ _ bad, levelBad, init, Config.badLimit, third]
  goodGood good state := by
    rcases state with state | state <;> simp [convertLevel_good _ _ good, levelGood, state]
  goodBad bad state := by
    simp [convertLevel_bad _ _ bad, levelBad, state]
  suspectBad bad state few := by
    simp [convertLevel_bad _ _ bad, levelBad, state, Config.badLimit, few.not_ge]
  suspectThird bad state third := by
    simp [convertLevel_bad _ _ bad, levelBad, state, Config.badLimit, third]
  recovered good state eighth := by
    rcases state with state | state <;>
      simp [convertLevel_good _ _ good, levelGood, levelRecovered, state, Config.windowSize, eighth]
  heldOn state short := by
    cases h : goodConversion i
    · simp [convertLevel_bad _ _ h, levelBad, levelHold, state, Config.holdLimit]
    · simp [convertLevel_good _ _ h, levelGood, levelHold, state, Config.windowSize, (short h).not_ge,
        Config.holdLimit]
  substitutedOn state short := by
    cases h : goodConversion i
    · simp [convertLevel_bad _ _ h, levelBad, state]
    · simp [convertLevel_good _ _ h, levelGood, state, Config.windowSize, (short h).not_ge]

/-- A conversion of a current input follows the rows of R13. -/
theorem convertCurrent_transition (i : Nat) (x : CurrentInput) :
    CurrentTransition i x (convertCurrent i x) where
  lastLoop := by
    simp only [convertCurrent]
    repeat' split
    all_goals rfl
  initGood good init := by
    simp [convertCurrent, measured_reading, good, init, Config.windowSize]
  initBad bad init few := by
    simp [convertCurrent, measured_reading, bad, init, Config.badLimit, few.not_ge]
  initThird bad init third := by
    simp [convertCurrent, measured_reading, bad, init, Config.badLimit, third]
  goodGood good state := by
    rcases state with state | state <;> simp [convertCurrent, measured_reading, good, state]
  goodBad bad state := by
    simp [convertCurrent, measured_reading, bad, state]
  suspectBad bad state few := by
    simp [convertCurrent, measured_reading, bad, state, Config.badLimit, few.not_ge]
  suspectThird bad state third := by
    simp [convertCurrent, measured_reading, bad, state, Config.badLimit, third]
  recovered good state eighth := by
    simp [convertCurrent, measured_reading, good, state, Config.windowSize, eighth]
  lostOn state short := by
    cases h : goodConversion i
    · simp [convertCurrent, measured_reading, h, state]
    · simp [convertCurrent, measured_reading, h, state, Config.windowSize, (short h).not_ge]

/-- A conversion out of turn is no event (R1; log entry 10). -/
theorem conversionEnd_outOfTurn (input : Ain) (i : Nat) (s : State) (h : s.acq.scan ≠ some (ainNum input)) :
    exec (.conversionEnd input i) s = .next s := by
  simp [exec, execConversionEnd, h]

/-- Settles O15: the turn decides whether the conversion is taken, and its input then follows the table. -/
theorem conversionsAdvanceTheirOwnInputByTheTable : Obligations.ConversionsAdvanceTheirOwnInputByTheTable := by
  refine ⟨fun i => ⟨by simp [goodConversion], rfl⟩, pushWindow_eq,
    fun i s => ⟨?polder, ?sump, ?river, ?current, ?other⟩⟩
  case polder =>
    intro turn
    exact ⟨_, by simp only [exec, execConversionEnd, turn]; rfl, convertLevel_transition _ _ _⟩
  case sump =>
    intro turn
    exact ⟨_, by simp only [exec, execConversionEnd, turn]; rfl, convertLevel_transition _ _ _⟩
  case river =>
    intro turn
    exact ⟨_, by simp only [exec, execConversionEnd, turn]; rfl, convertLevel_transition _ _ _⟩
  case current =>
    intro k turn
    exact ⟨_, by simp only [exec, execConversionEnd, turn, ainNum]; rfl, convertCurrent_transition _ _⟩
  case other =>
    intro input turn
    apply conversionEnd_outOfTurn
    cases input <;> exact turn

end Sys2Proof.Machine
end

section
/-! PROOFS. The end of an event with a prompt cause, and the shared moves on the hand-running set. -/
namespace Sys2Proof.Machine

/-! ## What the end of an event leaves of the scheduler -/

/-- Neither a prompt cause, nor the QUIT test, nor the end of an event moves the held river side (R51). -/
@[simp] theorem promptCauses_riverSide (n : Nat) (s : State) :
    (promptCauses n s).sched.riverSide = s.sched.riverSide := by
  induction n generalizing s with
  | zero => rfl
  | succ n ih =>
    simp only [promptCauses, ih, promptCause, composeStage, offerStage]; repeat' split
    all_goals simp

@[simp] theorem quitTest_riverSide (s : State) : (quitTest s).sched.riverSide = s.sched.riverSide := by
  simp only [quitTest, offerQuit, quitEnded, enterLeft]; repeat' split
  all_goals simp

@[simp] theorem settle_riverSide (s0 : State) (n : Nat) (s : State) :
    (settle s0 n s).sched.riverSide = s.sched.riverSide := by
  simp only [settle]; repeat' split
  all_goals simp

/-! ## Prompt causes (R51, R52) -/

/-- Whether a STAGE is on the line, as the model tests it and as the statements say it. -/
theorem stageOnLine_iff (s : State) : stageOnLine s = true ↔ StageOnLine s := by
  unfold stageOnLine StageOnLine
  split
  case h_1 p w h => simp [h]
  case h_2 h => simpa using h

/-- A STAGE is seen on the line alone. -/
theorem StageOnLine.congr {s t : State} (h : t.port.tx = s.port.tx) : StageOnLine t ↔ StageOnLine s := by
  simp [StageOnLine, h]

/-- What a composed STAGE leaves of the port: it is queued, in an ACTIVE port alone (R27, R53). -/
theorem composeStage_stage (s : State) (h : s.port.state = .active) :
    (composeStage s).port.queue.stage = some (stagePayload s) := by
  rw [(composeStage_composed s).queued, if_pos h]

@[simp] theorem composeStage_length (s : State) :
    (composeStage s).view.records.length = s.view.records.length := by
  rw [(composeStage_composed s).view]; simp

@[simp] theorem promptCause_length (s : State) : (promptCause s).view.records.length = s.view.records.length := by
  simp only [promptCause]; repeat' split
  all_goals simp

/-- The spacing timer starts at a transmission, not at a prompt cause (R52). -/
@[simp] theorem promptCause_spacing (s : State) : (promptCause s).sched.spacingTimer = s.sched.spacingTimer := by
  simp only [promptCause]; repeat' split
  · rw [(composeStage_composed s).sched]
  all_goals simp

/-- What `Prompted` reads of its two states. -/
theorem Prompted.congr_left {s s' t : State} (h : Prompted s' t) (sched : s'.sched = s.sched) (ctl : s'.ctl = s.ctl)
    (view : s'.view = s.view) (state : s'.port.state = s.port.state) (line : StageOnLine s' ↔ StageOnLine s) :
    Prompted s t := by
  have own : s'.own = s.own := by simp only [State.own, State.cfg, ctl]
  have cfg : s'.cfg = s.cfg := by simp only [State.cfg, ctl]
  obtain ⟨pending, atOnce⟩ := h
  rw [sched, line] at pending
  rw [sched, line, own, view, cfg, state] at atOnce
  exact ⟨pending, atOnce⟩

/-- One prompt cause of a reporting station (R51, R52). -/
theorem promptCause_prompted (s : State) (h : s.reporting = true) : Prompted s (promptCause s) := by
  by_cases free : s.sched.spacingTimer = none ∧ ¬ StageOnLine s
  · have act : promptCause s = composeStage s := by
      have : stageOnLine s = false := by simpa [← stageOnLine_iff] using free.2
      simp [promptCause, h, free.1, this]
    have composed := composeStage_composed s
    rw [act]
    refine ⟨fun busy => ?_, fun _ _ low high => ⟨_, composed.own low high, ?_⟩⟩
    · simp [free.1, free.2] at busy
    · rw [composed.sched, composed.number]
      exact ⟨rfl, by simp [composed.levels], by simp [composed.station], by simp [composed.station], rfl, rfl,
        composeStage_stage s⟩
  · have wait : promptCause s = s.setSched { s.sched with prompt := true } := by
      rw [← stageOnLine_iff] at free
      have : (s.sched.spacingTimer.isNone && !stageOnLine s) = false := by
        rw [← Bool.not_eq_true]; simpa using free
      simp [promptCause, h, this]
    rw [wait]
    exact ⟨fun _ => ⟨rfl, rfl⟩, fun still idle => absurd ⟨still, idle⟩ free⟩

/-- One prompt cause or more, each in its turn, leave what the last of them leaves (log entry 5). -/
theorem promptCauses_prompted (n : Nat) (s : State) (h : s.reporting = true) : Prompted s (promptCauses (n + 1) s) := by
  induction n generalizing s with
  | zero => exact promptCause_prompted s h
  | succ n ih =>
    have first := promptCause_prompted s h
    have again : (promptCause s).reporting = true := by simpa [State.reporting] using h
    have line : StageOnLine (promptCause s) ↔ StageOnLine s := StageOnLine.congr (by simp)
    have own : (promptCause s).own = s.own := by simp [State.own, State.cfg]
    have cfg : (promptCause s).cfg = s.cfg := by simp [State.cfg]
    obtain ⟨pending, atOnce⟩ := ih (promptCause s) again
    rw [promptCause_spacing, line] at pending
    have state : (promptCause s).port.state = s.port.state := by simp
    rw [promptCause_spacing, line, own, promptCause_length, cfg, state] at atOnce
    exact ⟨fun busy => ⟨(pending busy).1, (pending busy).2.trans (first.pending busy).2⟩, atOnce⟩

/-- A QUIT test that does not end LEAVING leaves the marks of a report, and a queued STAGE. -/
theorem quitTest_staying (s : State) (h : (quitTest s).sched.coord = s.sched.coord) :
    (quitTest s).sched = { s.sched with quitOffered := (quitTest s).sched.quitOffered } ∧
      (quitTest s).port.queue.stage = s.port.queue.stage := by
  revert h
  simp only [quitTest, offerQuit, quitEnded, enterLeft]
  repeat' split
  all_goals simp_all

/-- A report that a prompt cause has left stands through a QUIT test that does not end LEAVING. -/
theorem Prompted.after_quitTest {s t : State} (h : Prompted s t) (stays : (quitTest t).sched.coord = t.sched.coord) :
    Prompted s (quitTest t) := by
  obtain ⟨sched, stage⟩ := quitTest_staying t stays
  have record : ∀ n, (quitTest t).record n = t.record n := fun n => record_congr _ _ _ (by simp)
  have acq : (quitTest t).acq = t.acq := by simp
  have disp : (quitTest t).disp = t.disp := by simp
  obtain ⟨pending, atOnce⟩ := h
  constructor
  · rw [sched]; exact pending
  · rw [sched, stage, record, acq, disp]; exact atOnce

/-- An event that ends with a prompt cause, its own or a changed E_hand, in a station that goes on as it was (R51, R52). -/
theorem settle_prompted (s0 : State) (n : Nat) (s : State) (h : s.reporting = true)
    (cause : 0 < n ∨ s0.disp.eHand ≠ (settle s0 n s).disp.eHand)
    (stays : (settle s0 n s).sched.coord = s.sched.coord) : Prompted s (settle s0 n s) := by
  have formed : (settle s0 n s).disp.eHand = eHandOf s := by simp
  rw [formed] at cause
  revert stays
  simp only [settle]
  generalize hu : (if speedTargetDue s0 (reform s) then formNt (reform s) else reform s) = u
  intro stays
  have frame : u.sched = s.sched ∧ u.ctl = s.ctl ∧ u.view = s.view ∧ u.port = s.port := by subst hu; split <;> simp
  obtain ⟨sched, ctl, view, port⟩ := frame
  have hand : u.disp.eHand = eHandOf s := by
    subst hu; split
    · rw [formNt_disp]; rfl
    · rfl
  obtain ⟨m, hm⟩ : ∃ m, (n + if (s0.disp.eHand != u.disp.eHand) = true then 1 else 0) = m + 1 := by
    apply Nat.exists_eq_succ_of_ne_zero
    rw [hand]
    rcases cause with cause | cause
    · omega
    · simp [cause]
  rw [hm] at stays ⊢
  have prompted := promptCauses_prompted m u (by simpa [State.reporting, sched] using h)
  have base : Prompted s (promptCauses (m + 1) u) :=
    prompted.congr_left sched ctl view (by rw [port]) (StageOnLine.congr (by rw [port]))
  split
  · rename_i occasion
    rw [if_pos occasion] at stays
    exact base.after_quitTest (by simpa [sched] using stays)
  · exact base

/-! ## The hand-running set (R102) -/

/-- The hand-running set holds the LOCAL channels that the published currents judge to be running, and no other. -/
def HandFormed (s : State) : Prop := ∀ k, quadGet s.disp.hand k = (s.isIn k .inLocal && handJudged s k)

/-- The judgement rests on the published figures and the configuration. -/
theorem handJudged_congr {s t : State} (acq : t.acq = s.acq) (ctl : t.ctl = s.ctl) (k : Chan) :
    handJudged t k = handJudged s k := by
  have current : t.current k = s.current k := by simp only [State.current, acq]
  have pump : t.pump k = s.pump k := by simp only [State.pump, State.cfg, ctl]
  rw [handJudged, handJudged, current, pump]

/-- The judgement by cases: a working current counts from I_ul on, an absent one counts (R102; log entry 8). -/
theorem handJudged_iff (s : State) (k : Chan) :
    handJudged s k = true ↔ ∀ w, s.current k = some w → (s.pump k).iul ≤ w := by
  unfold handJudged; split <;> simp_all

theorem HandFormed.congr {s t : State} (h : HandFormed s) (acq : t.acq = s.acq) (ctl : t.ctl = s.ctl)
    (chans : t.chans = s.chans) (hand : t.disp.hand = s.disp.hand) : HandFormed t := by
  intro k
  rw [hand, handJudged_congr acq ctl, h k]
  simp only [State.isIn, State.chanState, State.chan, chans]

theorem judgeHand_handFormed (s : State) : HandFormed (judgeHand s) := by
  intro k
  simp only [judgeHand, State.setDisp_disp, quadGet_quadOf, State.setDisp_isIn]
  rfl

/-- A moved channel is judged anew, so every move keeps the set formed. -/
theorem moveChan_handFormed {s : State} (h : HandFormed s) (k : Chan) (c : Channel) : HandFormed (moveChan s k c) := by
  intro j
  have judged : handJudged (moveChan s k c) j = handJudged s j := handJudged_congr (by simp) (by simp) j
  rw [moveChan_hand, moveChan_isIn, quadGet_quadSet, judged]
  split
  case isTrue same => rw [same]
  case isFalse => exact h j

theorem enterResting_handFormed {s : State} (h : HandFormed s) (k : Chan) : HandFormed (enterResting s k) := by
  unfold enterResting; split <;> exact moveChan_handFormed h _ _

theorem dryRunOrder_handFormed (s : State) (k : Chan) (h : HandFormed s) : HandFormed (dryRunOrder s k) := by
  unfold dryRunOrder; split
  · exact enterResting_handFormed h k
  · exact h

theorem withdrawNotice_handFormed {s : State} (h : HandFormed s) : HandFormed (withdrawNotice s) := by
  have dropped : HandFormed (dropNotice s) := h.congr (by simp) (by simp) (by simp) (by simp)
  unfold withdrawNotice; split
  · unfold backToIdle; split
    · exact moveChan_handFormed dropped _ _
    · exact dropped
  · exact h

theorem latchFault_handFormed {s : State} (h : HandFormed s) (k : Chan) (kind : FaultKind) :
    HandFormed (latchFault s k kind) := by
  unfold latchFault; split
  · exact moveChan_handFormed (h.congr rfl rfl rfl rfl) _ _
  · exact h.congr rfl rfl rfl rfl

theorem settle_handFormed {s : State} (h : HandFormed s) (s0 : State) (n : Nat) : HandFormed (settle s0 n s) :=
  h.congr (by simp) (by simp) (by simp) (by simp)

end Sys2Proof.Machine
end

section
/-! PROOFS. The scan completion (R1, R10 to R16, R51, R101 to R103). -/
namespace Sys2Proof.Machine

/-! ## Filtered values and the discharge figures (R5, R101) -/

/-- The filtered level is the floored mean of a full window (R5). -/
theorem filteredLevel_mean (sc : LevelScale) (w : List Nat) :
    (w.length = 8 → ∃ v : Int, filteredLevel sc w = some v ∧ 8 * v ≤ (w.map (scaleLevel sc)).sum
      ∧ (w.map (scaleLevel sc)).sum < 8 * (v + 1)) ∧
    (w.length ≠ 8 → filteredLevel sc w = none) :=
  ⟨fun full => ⟨_, if_pos full, by omega, by omega⟩, fun short => if_neg short⟩

/-- The filtered current is the floored mean of a full window (R5). -/
theorem filteredCurrent_mean (fs : Nat) (w : List Nat) :
    (w.length = 8 → ∃ v : Nat, filteredCurrent fs w = some v ∧ 8 * v ≤ (w.map (scaleCurrent fs)).sum
      ∧ (w.map (scaleCurrent fs)).sum < 8 * (v + 1)) ∧
    (w.length ≠ 8 → filteredCurrent fs w = none) :=
  ⟨fun full => ⟨_, if_pos full, by omega, by omega⟩, fun short => if_neg short⟩

/-- Until the table is first formed Qmax and Qmin are those of Qr (R101). -/
theorem discharge_without_table (s : State) (k : Chan) (h : s.disp.table = none) :
    s.qmax k = (if s.fitted k then (s.pump k).qr else 0) ∧
      s.qmin k = if s.fitted k then (s.pump k).qr * (s.pump k).nmin / 1022 else 0 := by
  constructor
  · simp only [State.qmax, h]
  · simp only [State.qmin, h, atSpeed_eq]

/-- After that both are the table's (R101). -/
theorem discharge_of_table (s : State) (k : Chan) (d : Discharge) (h : s.disp.table.bind (quadGet · k) = some d) :
    s.qmax k = d.qmax ∧ s.qmin k = d.qmin := by
  obtain ⟨t, table, entry⟩ := Option.bind_eq_some_iff.1 h
  simp only [State.qmax, State.qmin, table, entry, and_self]

/-- The table formed at a published head (R100, R101). -/
theorem formTable_entry (s : State) (h : Nat) (head : s.acq.pub.head = some h) (k : Chan) :
    (formTable s).disp.table.bind (quadGet · k) =
      if s.fitted k then
        some ⟨fullDischarge (s.pump k) h, fullDischarge (s.pump k) h * (s.pump k).nmin / 1022⟩
      else none := by
  simp only [formTable, head, State.setDisp_disp, Option.bind_some, quadGet_quadOf, atSpeed_eq]

/-- Forming the table changes nothing but the table. -/
theorem formTable_disp (s : State) : (formTable s).disp = { s.disp with table := (formTable s).disp.table } := by
  unfold formTable; split <;> rfl

/-! ## The published figures (R10 to R16) -/

/-- The own working value of a level input by its state (R7, R8). -/
theorem ownValue_eq (sc : LevelScale) (x : LevelInput) :
    ownValue sc x = if x.state = .good ∨ x.state = .suspect then filteredLevel sc x.window
      else if x.state = .held then x.held else none := by
  unfold ownValue; cases x.state <;> rfl

/-- The working polder level keeps the held value in SUBSTITUTED (R10). -/
theorem polderValue_eq (sc : LevelScale) (x : LevelInput) :
    polderValue sc x = if x.state = .substituted then x.held else ownValue sc x := by
  unfold polderValue; cases h : x.state <;> rfl

/-- When the polder input is degraded (R10, R16). -/
theorem polderDegraded_iff (x : LevelInput) :
    polderDegraded x = true ↔ x.state = .init ∨ x.state = .substituted ∨ (x.state = .held ∧ x.held = none) := by
  unfold polderDegraded; cases x.state <;> simp

/-- A current input as published (R13). -/
theorem publishCurrent_eq (fs : Nat) (x : CurrentInput) :
    publishCurrent fs x =
      { state := x.state, lastLoop := x.lastLoop
        working := if x.state = .good ∨ x.state = .suspect then filteredCurrent fs x.window else none } := by
  unfold publishCurrent; cases x.state <;> rfl

/-- Before an acceptance states and last loop currents alone are published (R16). -/
theorem publish_bare (s : State) (h : s.ctl.config = none) :
    publish s = s.setAcq { s.acq with scan := none, pub := publishBare s.acq } := by
  simp only [publish, h]

/-- Under a configuration the scan is published by `publishWith` (R10 to R15). -/
theorem publish_with (s : State) (c : StationConfig) (h : s.ctl.config = some c) :
    publish s = s.setAcq { s.acq with scan := none, pub := publishWith c (s.allow.stage.getD c.sClose) s.acq } := by
  simp only [publish, h]

/-- A publication touches the acquisition unit alone. -/
@[simp] theorem publish_frame (s : State) :
    (publish s).ctl = s.ctl ∧ (publish s).port = s.port ∧ (publish s).sched = s.sched ∧ (publish s).view = s.view
    ∧ (publish s).allow = s.allow ∧ (publish s).alloc = s.alloc ∧ (publish s).disp = s.disp
    ∧ (publish s).arb = s.arb ∧ (publish s).chans = s.chans ∧ (publish s).sup = s.sup
    ∧ (publish s).maint = s.maint ∧ (publish s).pending = s.pending := by
  simp [publish]

/-! ## The parts of a scan completion -/

/-- A withdrawal leaves the rotation list, the table, the lockout and n_t. -/
@[simp] theorem withdrawNotice_disp (s : State) :
    (withdrawNotice s).disp.rotation = s.disp.rotation ∧ (withdrawNotice s).disp.table = s.disp.table
    ∧ (withdrawNotice s).disp.lockout = s.disp.lockout ∧ (withdrawNotice s).disp.nt = s.disp.nt := by
  unfold withdrawNotice; split <;> simp

@[simp] theorem judgeLockout_frame (s : State) :
    (judgeLockout s).ctl = s.ctl ∧ (judgeLockout s).acq = s.acq ∧ (judgeLockout s).sched = s.sched
    ∧ (judgeLockout s).view = s.view ∧ (judgeLockout s).allow = s.allow ∧ (judgeLockout s).alloc = s.alloc
    ∧ (judgeLockout s).sup = s.sup ∧ (judgeLockout s).maint = s.maint ∧ (judgeLockout s).pending = s.pending
    ∧ (judgeLockout s).disp.rotation = s.disp.rotation ∧ (judgeLockout s).disp.table = s.disp.table
    ∧ (judgeLockout s).disp.nt = s.disp.nt := by
  simp only [judgeLockout, forChans]; repeat' split
  all_goals simp

@[simp] theorem latchFault_disp (s : State) (k : Chan) (kind : FaultKind) :
    (latchFault s k kind).disp.rotation = s.disp.rotation ∧ (latchFault s k kind).disp.table = s.disp.table
    ∧ (latchFault s k kind).disp.lockout = s.disp.lockout ∧ (latchFault s k kind).disp.nt = s.disp.nt := by
  unfold latchFault; split <;> simp

@[simp] theorem superviseChan_frame (s : State) (k : Chan) :
    (superviseChan s k).ctl = s.ctl ∧ (superviseChan s k).acq = s.acq ∧ (superviseChan s k).port = s.port
    ∧ (superviseChan s k).sched = s.sched ∧ (superviseChan s k).view = s.view ∧ (superviseChan s k).allow = s.allow
    ∧ (superviseChan s k).alloc = s.alloc ∧ (superviseChan s k).arb = s.arb ∧ (superviseChan s k).maint = s.maint
    ∧ (superviseChan s k).pending = s.pending ∧ (superviseChan s k).disp.rotation = s.disp.rotation
    ∧ (superviseChan s k).disp.table = s.disp.table ∧ (superviseChan s k).disp.lockout = s.disp.lockout
    ∧ (superviseChan s k).disp.nt = s.disp.nt := by
  simp only [superviseChan, offerLatch]; repeat' split
  all_goals simp

theorem judgeLockout_handFormed {s : State} (h : HandFormed s) : HandFormed (judgeLockout s) := by
  unfold judgeLockout
  repeat' split
  case isTrue.isTrue => exact h.congr rfl rfl rfl rfl
  case isFalse.isTrue =>
    exact withdrawNotice_handFormed
      (forChans_keeps (P := HandFormed) dryRunOrder_handFormed _ (h.congr rfl rfl rfl rfl))
  all_goals exact h

theorem superviseChan_handFormed (s : State) (k : Chan) (h : HandFormed s) : HandFormed (superviseChan s k) := by
  have stored : ∀ x : Supervision, HandFormed (s.setSup x) := fun x => h.congr rfl rfl rfl rfl
  unfold superviseChan
  split
  · dsimp only
    split
    · unfold offerLatch; split
      · exact (stored _).congr rfl rfl rfl rfl
      · exact latchFault_handFormed (stored _) _ _
    · exact stored _
  · exact h

/-- The river side is followed from the hand-over on, while a river stage is usable (R47, R51). -/
theorem followRiver_riverSide (s : State) :
    (followRiver s).sched.riverSide = match s.sched.coord, s.acq.pub.river.working with
      | some _, some z => some (sideOf s.cfg z)
      | _, _ => s.sched.riverSide := by
  unfold followRiver
  cases river : s.acq.pub.river.working <;> cases coord : s.sched.coord <;> simp

@[simp] theorem followRiver_frame (s : State) :
    (followRiver s).ctl = s.ctl ∧ (followRiver s).acq = s.acq ∧ (followRiver s).port = s.port
    ∧ (followRiver s).view = s.view ∧ (followRiver s).allow = s.allow ∧ (followRiver s).alloc = s.alloc
    ∧ (followRiver s).disp = s.disp ∧ (followRiver s).arb = s.arb ∧ (followRiver s).chans = s.chans
    ∧ (followRiver s).sup = s.sup ∧ (followRiver s).maint = s.maint ∧ (followRiver s).pending = s.pending := by
  unfold followRiver; repeat' split
  all_goals simp

/-- A scan completion under a configuration, up to the end of the event: publication, first table, hand-running set, lockout and
current checks (R1, R101, R102, R114, R159). -/
def scanJudged (s : State) : State :=
  forChans superviseChan (judgeLockout (judgeHand (if s.disp.table.isNone then formTable (publish s) else publish s)))

/-- The prompt causes of its own that a scan completion raises: latched faults and a crossing (R51, R163). -/
def scanCauses (s : State) : Nat :=
  (faultCount (scanJudged s) - faultCount s) + if crossed (scanJudged s) then 1 else 0

/-- A scan completion before an acceptance publishes, and no more (R16). -/
theorem scanCompletion_bare (s : State) (h : s.acq.scan = some 7) (bare : s.ctl.config = none) :
    exec .scanCompletion s = .next (publish s) := by
  simp [exec, execScanCompletion, h, Config.inputs, bare]

/-- A scan completion under a configuration ends as an event with the causes it has raised (R1, R51; log entry 5). -/
theorem scanCompletion_with (s : State) (c : StationConfig) (h : s.acq.scan = some 7) (config : s.ctl.config = some c) :
    exec .scanCompletion s = .next (settle s (scanCauses s) (followRiver (scanJudged s))) := by
  simp only [exec, execScanCompletion, h, Config.inputs, if_true, config, publish_frame]
  rfl

theorem scanJudged_frame (s : State) :
    (scanJudged s).ctl = s.ctl ∧ (scanJudged s).acq = (publish s).acq ∧ (scanJudged s).sched = s.sched
    ∧ (scanJudged s).allow = s.allow ∧ (scanJudged s).maint = s.maint
    ∧ (scanJudged s).disp.rotation = s.disp.rotation := by
  have table : (formTable (publish s)).disp.rotation = s.disp.rotation := by rw [formTable_disp]; simp
  have hand : ∀ u, (judgeHand u).disp.rotation = u.disp.rotation := fun _ => rfl
  simp only [scanJudged, forChans]
  split <;> simp [hand, table]

/-- The first scan completion with a configuration forms the table; a formed table stands (R101). -/
theorem scanJudged_table (s : State) :
    (scanJudged s).disp.table = if s.disp.table.isNone then (formTable (publish s)).disp.table else s.disp.table := by
  have hand : ∀ u, (judgeHand u).disp.table = u.disp.table := fun _ => rfl
  simp only [scanJudged, forChans]
  split <;> simp [hand]

theorem scanJudged_handFormed (s : State) : HandFormed (scanJudged s) :=
  forChans_keeps (P := HandFormed) superviseChan_handFormed _ (judgeLockout_handFormed (judgeHand_handFormed _))

/-- Settles O17: the publication is `publishWith`, which the later parts of the completion leave; the table, the
hand-running set, the figures and the river side are each formed by their own part. -/
theorem scanCompletionPublishesTheWorkingFigures : Obligations.ScanCompletionPublishesTheWorkingFigures := by
  refine ⟨filteredLevel_mean, filteredCurrent_mean,
    fun s k => ⟨?fitted, ?unfitted, discharge_of_table s k⟩, ?completion⟩
  case fitted =>
    intro table fitted
    simpa [fitted] using discharge_without_table s k table
  case unfitted =>
    intro table unfitted
    simpa [unfitted] using discharge_without_table s k table
  case completion =>
    intro s scan
    refine ⟨fun bare => ?_, fun c config => ⟨_, scanCompletion_with s c scan config, ?_⟩⟩
    · rw [scanCompletion_bare s scan bare, publish_bare s bare]; rfl
    intro p level
    have own : ∀ x sc, level x sc = ownValue sc x := fun x sc => (ownValue_eq sc x).symm
    obtain ⟨ctl, acq, sched, allow, maint, rotation⟩ := scanJudged_frame s
    rw [publish_with s c config, State.setAcq_acq] at acq
    have published : p = publishWith c (s.allow.stage.getD c.sClose) s.acq := by simp [p, acq]
    have pump : ∀ k, (scanJudged s).pump k = quadGet c.pumps k := fun k => by simp [State.pump, State.cfg, ctl, config]
    simp only [own]
    refine ⟨?acq, ?states, ?loops, ?polder, ?degraded, ?sump, ?substitute, ?river, ?head, ?currents, ?table, ?stands,
      ?hand, settle_formed _ _ _, ?side, by simp [ctl], by simp [allow], by simp [maint], by simp [rotation]⟩
    case acq => rw [published]; simp [acq]
    case states => rw [published]; exact ⟨rfl, rfl, rfl⟩
    case loops => rw [published]; exact ⟨rfl, rfl, rfl⟩
    case polder => rw [published]; exact polderValue_eq _ _
    case degraded => rw [published]; exact polderDegraded_iff _
    case sump => intro z hz; simp [published, publishWith, hz]
    case substitute => intro hz; simp [published, publishWith, hz]; rfl
    case river => rw [published]; rfl
    case head => intro z hz; simp [published, publishWith] at hz ⊢; rw [hz]; rfl
    case currents => intro k; simp [published, publishWith, publishCurrent_eq]
    case table =>
      intro first k h hh
      have head : (publish s).acq.pub.head = some h := by rw [← hh, published, publish_with s c config]; rfl
      have fits : (publish s).pump k = quadGet c.pumps k := by simp [State.pump, State.cfg, config]
      simpa [scanJudged_table, first, State.fitted, fits] using formTable_entry (publish s) h head k
    case stands =>
      intro formed
      simp [scanJudged_table, formed]
    case hand =>
      intro k
      have formed : HandFormed (settle s (scanCauses s) (followRiver (scanJudged s))) :=
        settle_handFormed ((scanJudged_handFormed s).congr (by simp) (by simp) (by simp) (by simp)) _ _
      have fits : (settle s (scanCauses s) (followRiver (scanJudged s))).pump k = quadGet c.pumps k := by
        simp [State.pump, State.cfg, ctl, config]
      rw [formed k, Bool.and_eq_true, handJudged_iff, fits]
      rfl
    case side =>
      have cfg : (scanJudged s).cfg = c := by simp [State.cfg, ctl, config]
      rw [settle_riverSide, followRiver_riverSide, sched, acq, cfg, published]
      rfl

end Sys2Proof.Machine
end

section
/-! PROOFS. Selector samples and mode changes (R138 to R144). -/
namespace Sys2Proof.Machine

/-! ## One selector sample (R137 to R139) -/

/-- The newest two samples of a channel agree on a combination other than the debounced one (R138). -/
def Channel.Agrees (c : Channel) (x : Combination) : Prop := c.sample = some x ∧ c.combination ≠ x

/-- A sample that agrees with the one before it forms the combination, and with it mode and flag of a channel in use. -/
theorem takeSample_agreed (leftOut : Bool) {c : Channel} {x : Combination} (h : c.Agrees x) :
    takeSample leftOut c x =
      if leftOut then { c with sample := some x, sample2 := c.sample, combination := x }
      else { c with sample := some x, sample2 := c.sample, combination := x, mode := some (modeOf x)
                    selector := selectorOf x } := by
  unfold takeSample; exact if_pos h

/-- Any other sample is stored alone. -/
theorem takeSample_stored (leftOut : Bool) {c : Channel} {x : Combination} (h : ¬ c.Agrees x) :
    takeSample leftOut c x = { c with sample := some x, sample2 := c.sample } := by
  unfold takeSample; exact if_neg h

/-- A sample moves no channel: state, outputs and timers stand. -/
@[simp] theorem takeSample_frame (leftOut : Bool) (c : Channel) (x : Combination) :
    (takeSample leftOut c x).state = c.state ∧ (takeSample leftOut c x).run = c.run
    ∧ (takeSample leftOut c x).reference = c.reference ∧ (takeSample leftOut c x).window = c.window
    ∧ (takeSample leftOut c x).rest = c.rest ∧ (takeSample leftOut c x).sample = some x
    ∧ (takeSample leftOut c x).sample2 = c.sample := by
  by_cases h : c.Agrees x
  · rw [takeSample_agreed _ h]; split <;> simp
  · rw [takeSample_stored _ h]; simp

/-- When a sample changes the debounced combination, and when mode and flag with it (R137 to R139). -/
theorem takeSample_selector (leftOut : Bool) (c : Channel) (x : Combination) :
    (c.Agrees x → (takeSample leftOut c x).combination = x) ∧
    (¬ c.Agrees x → (takeSample leftOut c x).combination = c.combination) ∧
    (c.Agrees x → ¬ leftOut = true →
      (takeSample leftOut c x).mode = some (modeOf x) ∧ (takeSample leftOut c x).selector = selectorOf x) ∧
    (¬ c.Agrees x ∨ leftOut = true →
      (takeSample leftOut c x).mode = c.mode ∧ (takeSample leftOut c x).selector = c.selector) := by
  by_cases h : c.Agrees x
  · rw [takeSample_agreed _ h]; cases leftOut <;> simp [h]
  · rw [takeSample_stored _ h]; simp [h]

/-- The selector fields of a channel, which no move touches. -/
structure SameSelector (c d : Channel) : Prop where
  sample      : d.sample = c.sample
  sample2     : d.sample2 = c.sample2
  combination : d.combination = c.combination
  mode        : d.mode = c.mode
  selector    : d.selector = c.selector

theorem SameSelector.refl (c : Channel) : SameSelector c c := ⟨rfl, rfl, rfl, rfl, rfl⟩

/-- A channel that is left out by the accepted configuration (R137). -/
theorem leftOut_iff (s : State) (k : Chan) :
    s.leftOut k = true ↔ s.ctl.config.isSome = true ∧ s.fitted k = false := by
  simp [State.leftOut]

/-- A sample changes the mode of a fitted channel. -/
theorem modeChanges_iff (s : State) (contacts : Quad Contacts) (k : Chan) :
    modeChanges s contacts k = true ↔ s.fitted k = true ∧
      (takeSample (s.leftOut k) (s.chan k) (readContacts (quadGet contacts k))).mode ≠ (s.chan k).mode := by
  unfold modeChanges
  cases h : s.fitted k <;> simp [State.leftOut, h]

/-! ## What the mode changes leave of the station -/

/-- The arbiter after a withdrawal of the own notice (R128). -/
def Arbiter.dropped (a : Arbiter) : Arbiter := if a.notice = none then a else { a with notice := none, holdOff := none }

theorem dropNotice_arb_eq (s : State) : (dropNotice s).arb = s.arb.dropped := by
  unfold dropNotice Arbiter.dropped; cases s.arb.notice <;> simp

/-- What stands after a withdrawal stands after another. -/
theorem Arbiter.dropped_dropped (a : Arbiter) : a.dropped.dropped = a.dropped := by
  unfold Arbiter.dropped; split <;> simp_all

/-- A withdrawal marks a START on the line and no STAGE (R27). -/
theorem dropNotice_stageOnLine (s : State) : StageOnLine (dropNotice s) ↔ StageOnLine s := by
  unfold dropNotice
  split
  · unfold withdrawStart
    split
    · rfl
    · rcases h : s.port.tx with _ | ⟨frame, withdrawn⟩ <;> simp [StageOnLine, h]
    · rfl
  · rfl

/-- What mode changes leave of the station: every block but the channels, the hand-running set, the own notice and the
frame that is withdrawn with it. -/
structure ModeFrame (s t : State) : Prop where
  ctl   : t.ctl = s.ctl
  acq   : t.acq = s.acq
  sched : t.sched = s.sched
  view  : t.view = s.view
  allow : t.allow = s.allow
  sup   : t.sup = s.sup
  maint : t.maint = s.maint
  disp  : t.disp = { s.disp with hand := t.disp.hand }
  arb   : t.arb = s.arb ∨ t.arb = s.arb.dropped
  state : t.port.state = s.port.state
  line  : StageOnLine t ↔ StageOnLine s

theorem ModeFrame.refl (s : State) : ModeFrame s s :=
  ⟨rfl, rfl, rfl, rfl, rfl, rfl, rfl, rfl, .inl rfl, rfl, .rfl⟩

theorem ModeFrame.trans {s t u : State} (h : ModeFrame s t) (g : ModeFrame t u) : ModeFrame s u where
  ctl := g.ctl.trans h.ctl
  acq := g.acq.trans h.acq
  sched := g.sched.trans h.sched
  view := g.view.trans h.view
  allow := g.allow.trans h.allow
  sup := g.sup.trans h.sup
  maint := g.maint.trans h.maint
  disp := by rw [g.disp, h.disp]
  arb := by
    rcases g.arb with e | e <;> rcases h.arb with f | f <;> rw [e, f]
    · exact .inl rfl
    · exact .inr rfl
    · exact .inr rfl
    · exact .inr (Arbiter.dropped_dropped _)
  state := g.state.trans h.state
  line := g.line.trans h.line

theorem moveChan_modeFrame (s : State) (k : Chan) (c : Channel) : ModeFrame s (moveChan s k c) :=
  ⟨rfl, rfl, rfl, rfl, rfl, rfl, rfl, rfl, .inl rfl, rfl, .rfl⟩

theorem dropNotice_modeFrame (s : State) : ModeFrame s (dropNotice s) where
  ctl := by simp
  acq := by simp
  sched := by simp
  view := by simp
  allow := by simp
  sup := by simp
  maint := by simp
  disp := by simp
  arb := .inr (dropNotice_arb_eq s)
  state := by simp
  line := dropNotice_stageOnLine s

/-! ## The mode change of one channel (R128, R141 to R143) -/

/-- A placement is a move of its channel that keeps the selector fields, or none. -/
theorem placeByMode_cases (s : State) (k : Chan) :
    placeByMode s k = s ∨ ∃ c, SameSelector (s.chan k) c ∧ placeByMode s k = moveChan s k c := by
  have still : ∀ x, SameSelector (s.chan k) (parked (s.chan k) x) := fun x => ⟨rfl, rfl, rfl, rfl, rfl⟩
  unfold placeByMode enterResting
  split
  · split
    · exact .inr ⟨_, still _, rfl⟩
    · exact .inr ⟨{ parked (s.chan k) .resting with rest := some (s.cfg.tRest * 1000) },
        ⟨rfl, rfl, rfl, rfl, rfl⟩, rfl⟩
  · exact .inr ⟨_, still _, rfl⟩
  · exact .inr ⟨_, still _, rfl⟩
  · exact .inl rfl

/-- The own notice is withdrawn with a channel that leaves NOTICE by its mode (R128). -/
def leaveNotice (s : State) (k : Chan) : State :=
  if s.isIn k .notice && (s.chan k).mode != some .auto then dropNotice s else s

/-- The withdrawal moves no channel. -/
@[simp] theorem leaveNotice_chan (s : State) (j k : Chan) : (leaveNotice s k).chan j = s.chan j := by
  unfold leaveNotice; split
  · simp [State.chan]
  · rfl

theorem leaveNotice_modeFrame (s : State) (k : Chan) : ModeFrame s (leaveNotice s k) := by
  unfold leaveNotice; split
  · exact dropNotice_modeFrame s
  · exact .refl s

@[simp] theorem leaveNotice_disp (s : State) (k : Chan) : (leaveNotice s k).disp = s.disp := by
  unfold leaveNotice; split <;> simp

/-- A channel without a state and one in FAULT ignore a mode change (R137, R152). -/
theorem modeChange_ignored (s : State) (k : Chan) (h : s.chanState k = none ∨ s.chanState k = some .fault) :
    modeChange s k = s := by
  unfold modeChange; rcases h with h | h <;> rw [h]

/-- Elsewhere the channel is placed by its mode, except that AUTO takes it from DISABLED and LOCAL alone (R141 to R143). -/
theorem modeChange_eq (s : State) (k : Chan) {x : ChanState} (h : s.chanState k = some x) (fault : x ≠ .fault) :
    modeChange s k = if (s.chan k).mode = some .auto ∧ x ≠ .disabled ∧ x ≠ .inLocal then s
      else placeByMode (leaveNotice s k) k := by
  have leave : leaveNotice s k = if x = .notice && (s.chan k).mode != some .auto then dropNotice s else s := by
    simp [leaveNotice, State.isIn, h]
  unfold modeChange
  split
  case h_1 none => simp [h] at none
  case h_2 inFault => simp_all
  case h_3 y _ state =>
    obtain rfl : y = x := Option.some.inj (state.symm.trans h)
    dsimp only
    rw [← leave, leaveNotice_chan, placeByMode, leaveNotice_chan]
    cases mode : (s.chan k).mode with
    | none => simp
    | some m =>
      cases m with
      | off => simp
      | hand => simp
      | auto =>
        have stays : leaveNotice s k = s := by simp [leave, mode]
        by_cases disabled : y = .disabled <;> by_cases inLocal : y = .inLocal <;> simp [stays, disabled, inLocal]

/-- A mode change is at most a withdrawal of the notice and one move of its channel. -/
theorem modeChange_cases (s : State) (k : Chan) :
    modeChange s k = s ∨ modeChange s k = leaveNotice s k ∨
      ∃ c, SameSelector (s.chan k) c ∧ modeChange s k = moveChan (leaveNotice s k) k c := by
  by_cases ignored : s.chanState k = none ∨ s.chanState k = some .fault
  · exact .inl (modeChange_ignored s k ignored)
  · obtain ⟨x, hx⟩ := Option.ne_none_iff_exists'.1 (not_or.1 ignored).1
    rw [modeChange_eq s k hx (fun e => ignored (.inr (e ▸ hx)))]
    split
    · exact .inl rfl
    · have placed := placeByMode_cases (leaveNotice s k) k
      rw [leaveNotice_chan] at placed
      exact .inr placed

theorem modeChange_modeFrame (s : State) (k : Chan) : ModeFrame s (modeChange s k) := by
  rcases modeChange_cases s k with e | e | ⟨c, -, e⟩ <;> rw [e]
  · exact .refl s
  · exact leaveNotice_modeFrame s k
  · exact (leaveNotice_modeFrame s k).trans (moveChan_modeFrame _ k c)

/-- Its own mode change leaves a channel its selector fields. -/
theorem modeChange_selector (s : State) (k : Chan) : SameSelector (s.chan k) ((modeChange s k).chan k) := by
  rcases modeChange_cases s k with e | e | ⟨c, same, e⟩ <;> rw [e]
  · exact .refl _
  · rw [leaveNotice_chan]; exact .refl _
  · rw [moveChan_chan, if_pos rfl]; exact same

/-- The mode change of another channel leaves a channel and its place in the hand-running set. -/
theorem modeChange_other (s : State) {j k : Chan} (h : k ≠ j) :
    (modeChange s j).chan k = s.chan k ∧ quadGet (modeChange s j).disp.hand k = quadGet s.disp.hand k := by
  rcases modeChange_cases s j with e | e | ⟨c, -, e⟩ <;> rw [e]
  · exact ⟨rfl, rfl⟩
  · simp
  · rw [moveChan_chan, moveChan_hand, if_neg h, quadGet_quadSet_other _ _ h]; simp

/-- `Placed` by a mode reads the configuration and the published current before, the channel and its place in the
hand-running set after. -/
theorem Placed.congr {s s' t t' : State} {k : Chan} {m : Mode} (h : Placed s' t' k (some m)) (ctl : s'.ctl = s.ctl)
    (current : s'.current k = s.current k) (chan : t'.chan k = t.chan k)
    (hand : quadGet t'.disp.hand k = quadGet t.disp.hand k) : Placed s t k (some m) := by
  have cfg : s'.cfg = s.cfg := by simp only [State.cfg, ctl]
  have pump : s'.pump k = s.pump k := by simp only [State.pump, cfg]
  cases m <;> simpa only [Placed, Rested, HandJudged, cfg, pump, current, chan, hand] using h

/-- A mode change to OFF or HAND places the channel, and one to AUTO does so from DISABLED and LOCAL (R141 to R143). -/
theorem modeChange_placed (s : State) (k : Chan) {x : ChanState} {m : Mode} (h : s.chanState k = some x) (fault : x ≠ .fault)
    (mode : (s.chan k).mode = some m) (moves : m ≠ .auto ∨ x = .disabled ∨ x = .inLocal) :
    Placed s (modeChange s k) k (some m) := by
  have act : ¬ ((s.chan k).mode = some .auto ∧ x ≠ .disabled ∧ x ≠ .inLocal) := by
    rw [mode]; rintro ⟨auto, notDisabled, notLocal⟩
    simp_all
  rw [modeChange_eq s k h fault, if_neg act]
  have placed := (placeByMode_chan (leaveNotice s k) k).1
  rw [leaveNotice_chan, mode] at placed
  have frame := leaveNotice_modeFrame s k
  exact placed.congr frame.ctl (by simp only [State.current, frame.acq]) rfl rfl

/-- A mode change to OFF or HAND takes the own notice with a channel in NOTICE (R128). -/
theorem modeChange_notice (s : State) (k : Chan) (h : s.chanState k = some .notice) (mode : (s.chan k).mode ≠ some .auto) :
    (modeChange s k).arb = s.arb.dropped := by
  rw [modeChange_eq s k h (by decide), if_neg (fun act => mode act.1)]
  have leave : leaveNotice s k = dropNotice s := if_pos (by simp [State.isIn, h, mode])
  have placed : (placeByMode (leaveNotice s k) k).arb = (leaveNotice s k).arb := by simp
  rw [placed, leave, dropNotice_arb_eq]

/-! ## The samples of all channels -/

/-- What a step of every channel but `k` relates, four steps relate on both sides of the step of `k`. -/
theorem forChans_around {R : State → State → Prop} (refl : ∀ s, R s s) (trans : ∀ {s t u}, R s t → R t u → R s u)
    {f : State → Chan → State} (k : Chan) (step : ∀ s j, k ≠ j → R s (f s j)) (s : State) :
    ∃ u, R s u ∧ R (f u k) (forChans f s) := by
  unfold forChans
  cases k
  · exact ⟨s, refl s, trans (step _ .p2 (by decide)) (trans (step _ .p3 (by decide)) (step _ .p4 (by decide)))⟩
  · exact ⟨_, step s .p1 (by decide), trans (step _ .p3 (by decide)) (step _ .p4 (by decide))⟩
  · exact ⟨_, trans (step s .p1 (by decide)) (step _ .p2 (by decide)), step _ .p4 (by decide)⟩
  · exact ⟨_, trans (trans (step s .p1 (by decide)) (step _ .p2 (by decide))) (step _ .p3 (by decide)), refl _⟩

/-- The state with a scan begun and the samples taken (R1, R138). -/
def sampled (contacts : Quad Contacts) (s : State) : State :=
  (s.setAcq { s.acq with scan := some 0 }).setChans
    (quadOf fun k => takeSample (s.leftOut k) (s.chan k) (readContacts (quadGet contacts k)))

/-- The mode change of one channel at a scan timer expiry that began in `s`. -/
def takeMode (contacts : Quad Contacts) (s u : State) (k : Chan) : State :=
  if modeChanges s contacts k then modeChange u k else u

/-- A scan timer expiry up to the end of the event: samples, then mode changes (R138, R141 to R143). -/
def modesTaken (contacts : Quad Contacts) (s : State) : State := forChans (takeMode contacts s) (sampled contacts s)

/-- What the steps of the other channels relate at a channel. -/
structure Untouched (k : Chan) (s t : State) : Prop where
  frame : ModeFrame s t
  chan  : t.chan k = s.chan k
  hand  : quadGet t.disp.hand k = quadGet s.disp.hand k

theorem Untouched.refl (k : Chan) (s : State) : Untouched k s s := ⟨.refl s, rfl, rfl⟩

theorem Untouched.trans {k : Chan} {s t u : State} (h : Untouched k s t) (g : Untouched k t u) : Untouched k s u :=
  ⟨h.frame.trans g.frame, g.chan.trans h.chan, g.hand.trans h.hand⟩

theorem takeMode_modeFrame (contacts : Quad Contacts) (s u : State) (k : Chan) :
    ModeFrame u (takeMode contacts s u k) := by
  unfold takeMode; split
  · exact modeChange_modeFrame u k
  · exact .refl u

theorem takeMode_other (contacts : Quad Contacts) (s u : State) {j k : Chan} (h : k ≠ j) :
    Untouched k u (takeMode contacts s u j) := by
  obtain ⟨chan, hand⟩ := modeChange_other u h
  unfold takeMode; split
  · exact ⟨modeChange_modeFrame u j, chan, hand⟩
  · exact .refl k u

/-- A sampled channel, and what the samples leave. -/
@[simp] theorem sampled_chan (contacts : Quad Contacts) (s : State) (k : Chan) :
    (sampled contacts s).chan k = takeSample (s.leftOut k) (s.chan k) (readContacts (quadGet contacts k)) := by
  simp [sampled, State.chan]

@[simp] theorem sampled_isIn (contacts : Quad Contacts) (s : State) (k : Chan) (x : ChanState) :
    (sampled contacts s).isIn k x = s.isIn k x := by
  simp [State.isIn, State.chanState]

/-- The expiry of a channel's mode change: the others' leave it as sampled before, and as it is after. -/
theorem modesTaken_around (contacts : Quad Contacts) (s : State) (k : Chan) :
    ∃ u, Untouched k (sampled contacts s) u ∧ Untouched k (takeMode contacts s u k) (modesTaken contacts s) :=
  forChans_around (.refl k) .trans k (fun u _ h => takeMode_other contacts s u h) _

theorem modesTaken_modeFrame (contacts : Quad Contacts) (s : State) :
    ModeFrame (sampled contacts s) (modesTaken contacts s) :=
  forChans_keeps (P := ModeFrame (sampled contacts s)) (fun u k h => h.trans (takeMode_modeFrame contacts s u k)) _
    (.refl _)

/-- Samples, combination, mode and flag of each channel are those of its sample (R138, R139). -/
theorem modesTaken_selector (contacts : Quad Contacts) (s : State) (k : Chan) :
    SameSelector (takeSample (s.leftOut k) (s.chan k) (readContacts (quadGet contacts k)))
      ((modesTaken contacts s).chan k) := by
  obtain ⟨u, before, after⟩ := modesTaken_around contacts s k
  rw [after.chan, ← sampled_chan, ← before.chan, takeMode]
  split
  · exact modeChange_selector u k
  · exact .refl _

/-- A channel whose mode stands, or that ignores the change, stands as sampled. -/
theorem modesTaken_still (contacts : Quad Contacts) (s : State) (k : Chan)
    (h : modeChanges s contacts k = false ∨ s.chanState k = none ∨ s.chanState k = some .fault) :
    (modesTaken contacts s).chan k = takeSample (s.leftOut k) (s.chan k) (readContacts (quadGet contacts k)) ∧
      quadGet (modesTaken contacts s).disp.hand k = quadGet s.disp.hand k := by
  obtain ⟨u, before, after⟩ := modesTaken_around contacts s k
  have state : u.chanState k = s.chanState k := by simp [State.chanState, before.chan]
  have still : takeMode contacts s u k = u := by
    unfold takeMode; split
    case isTrue changes =>
      refine modeChange_ignored u k ?_
      rw [state]; simpa [changes] using h
    case isFalse => rfl
  rw [still] at after
  exact ⟨by rw [after.chan, before.chan, sampled_chan], by rw [after.hand, before.hand]; rfl⟩

/-- A changed mode places its channel (R141 to R143). -/
theorem modesTaken_placed (contacts : Quad Contacts) (s : State) (k : Chan) {x : ChanState} {m : Mode}
    (changes : modeChanges s contacts k = true) (state : s.chanState k = some x) (fault : x ≠ .fault)
    (mode : ((modesTaken contacts s).chan k).mode = some m) (moves : m ≠ .auto ∨ x = .disabled ∨ x = .inLocal) :
    Placed s (modesTaken contacts s) k (some m) := by
  obtain ⟨u, before, after⟩ := modesTaken_around contacts s k
  have act : takeMode contacts s u k = modeChange u k := if_pos changes
  rw [act] at after
  rw [after.chan, (modeChange_selector u k).mode] at mode
  have placed := modeChange_placed u k (x := x) (by simpa [State.chanState, before.chan] using state) fault mode moves
  exact placed.congr before.frame.ctl (by simp only [State.current, before.frame.acq]; rfl) after.chan.symm after.hand.symm

/-- A channel that leaves NOTICE by its mode takes the own notice with it (R128). -/
theorem modesTaken_notice (contacts : Quad Contacts) (s : State) (k : Chan) (changes : modeChanges s contacts k = true)
    (notice : s.chanState k = some .notice) (mode : ((modesTaken contacts s).chan k).mode ≠ some .auto) :
    (modesTaken contacts s).arb = s.arb.dropped := by
  obtain ⟨u, before, after⟩ := modesTaken_around contacts s k
  have act : takeMode contacts s u k = modeChange u k := if_pos changes
  rw [act] at after
  rw [after.chan, (modeChange_selector u k).mode] at mode
  have here := modeChange_notice u k (by simpa [State.chanState, before.chan] using notice) mode
  have arb : u.arb.dropped = s.arb.dropped := by
    rcases before.frame.arb with e | e <;> rw [e]
    · rfl
    · exact Arbiter.dropped_dropped _
  rcases after.frame.arb with e | e <;> rw [e, here, arb]
  exact Arbiter.dropped_dropped _

/-- Without a changed mode the samples alone are taken. -/
theorem modesTaken_unchanged (contacts : Quad Contacts) (s : State) (h : anyChan (modeChanges s contacts) = false) :
    modesTaken contacts s = sampled contacts s := by
  simp only [anyChan, Bool.or_eq_false_iff] at h
  simp [modesTaken, forChans, takeMode, h]

/-- The end of a scan timer expiry: that of an event that has moved channels when a mode changed, none otherwise. -/
def scanTimerEnd (contacts : Quad Contacts) (s : State) : State :=
  if anyChan (modeChanges s contacts) then settle s 0 (modesTaken contacts s) else modesTaken contacts s

/-- With no latch on its way a scan timer expiry ends so (R138, R141 to R143; log entry 5). -/
theorem scanTimerExpiry_eq (contacts : Quad Contacts) (s : State) (running : s.acq.scanTimer.isSome = true)
    (offered : NoneOffered s) :
    exec (.scanTimerExpiry contacts) s = .next (scanTimerEnd contacts s) := by
  have sup : (scanTimerEnd contacts s).sup = s.sup := by
    unfold scanTimerEnd; split <;> simp [(modesTaken_modeFrame contacts s).sup] <;> rfl
  have whole : exec (.scanTimerExpiry contacts) s = .next (latchesArrive (scanTimerEnd contacts s)) := by
    simp only [exec, execScanTimerExpiry, running, if_true, scanTimerEnd]
    split
    case isTrue => rfl
    case isFalse same => rw [modesTaken_unchanged contacts s (by simpa using same)]; rfl
  rw [whole, latchesArrive_none _ (by rw [NoneOffered, sup]; exact offered)]

/-- The end of the event changes neither the channels nor what else it has no concern with. -/
theorem scanTimerEnd_frame (contacts : Quad Contacts) (s : State) :
    (scanTimerEnd contacts s).ctl = s.ctl ∧ (scanTimerEnd contacts s).acq = { s.acq with scan := some 0 }
    ∧ (scanTimerEnd contacts s).sup = s.sup ∧ (scanTimerEnd contacts s).allow = s.allow
    ∧ (scanTimerEnd contacts s).maint = s.maint
    ∧ (scanTimerEnd contacts s).chans = (modesTaken contacts s).chans
    ∧ (scanTimerEnd contacts s).disp.hand = (modesTaken contacts s).disp.hand
    ∧ (scanTimerEnd contacts s).disp.rotation = s.disp.rotation ∧ (scanTimerEnd contacts s).disp.table = s.disp.table
    ∧ (scanTimerEnd contacts s).disp.lockout = s.disp.lockout := by
  have frame := modesTaken_modeFrame contacts s
  have disp : ∀ {α : Type} (g : Dispatch → α), (∀ d hand, g { d with hand := hand } = g d) →
      g (modesTaken contacts s).disp = g s.disp := by
    intro α g hg; rw [frame.disp, hg]; rfl
  have rotation := disp (·.rotation) (fun _ _ => rfl)
  have table := disp (·.table) (fun _ _ => rfl)
  have lockout := disp (·.lockout) (fun _ _ => rfl)
  unfold scanTimerEnd
  split <;> simp [frame.ctl, frame.acq, frame.sup, frame.allow, frame.maint, rotation, table, lockout, sampled]

/-- A mode change of a fitted channel is what makes the expiry end as an event (R103). -/
theorem scanTimerEnd_changed (contacts : Quad Contacts) (s : State) (k : Chan)
    (h : modeChanges s contacts k = true) : scanTimerEnd contacts s = settle s 0 (modesTaken contacts s) := by
  have any : anyChan (modeChanges s contacts) = true := by cases k <;> simp [anyChan, h]
  exact if_pos any

/-- Without a changed mode the samples alone are taken, and no figure is formed. -/
theorem scanTimerEnd_unchanged (contacts : Quad Contacts) (s : State) (h : ¬ anyChan (modeChanges s contacts) = true) :
    scanTimerEnd contacts s = sampled contacts s := by
  rw [scanTimerEnd, if_neg h, modesTaken_unchanged contacts s (by simpa using h)]

/-- A change of R forms n_t (R111). -/
theorem scanTimerEnd_speedTarget (contacts : Quad Contacts) (s : State)
    (h : ∃ k, (scanTimerEnd contacts s).inR k ≠ s.inR k) : SpeedTargetFormed s (scanTimerEnd contacts s) := by
  obtain ⟨k, moved⟩ := h
  by_cases any : anyChan (modeChanges s contacts) = true
  · have ends : scanTimerEnd contacts s = settle s 0 (modesTaken contacts s) := if_pos any
    rw [ends] at moved ⊢
    have inR : (settle s 0 (modesTaken contacts s)).inR k = (modesTaken contacts s).inR k := by
      simp [State.inR, State.isIn, State.chanState, State.chan]
    have differ : rSet s ≠ rSet (modesTaken contacts s) := by
      intro same
      have at_k := congrArg (quadGet · k) same
      simp only [rSet, quadGet_quadOf] at at_k
      exact moved (inR.trans at_k.symm)
    have target := settle_speedTarget s 0 (modesTaken contacts s) (by simp [speedTargetDue, differ])
    refine ⟨target.formed, fun idle => (target.kept idle).trans ?_⟩
    rw [(modesTaken_modeFrame contacts s).disp]; rfl
  · rw [scanTimerEnd_unchanged contacts s any] at moved
    simp [State.inR] at moved

/-- A changed E_hand is a prompt cause of a station that goes on reporting (R51, R52). -/
theorem scanTimerEnd_prompted (contacts : Quad Contacts) (s : State) (reporting : s.reporting = true)
    (hand : (scanTimerEnd contacts s).disp.eHand ≠ s.disp.eHand)
    (coord : (scanTimerEnd contacts s).sched.coord = s.sched.coord) : Prompted s (scanTimerEnd contacts s) := by
  by_cases any : anyChan (modeChanges s contacts) = true
  · have ends : scanTimerEnd contacts s = settle s 0 (modesTaken contacts s) := if_pos any
    rw [ends] at hand coord ⊢
    have frame := modesTaken_modeFrame contacts s
    have sched : (modesTaken contacts s).sched = s.sched := frame.sched
    have prompted := settle_prompted s 0 (modesTaken contacts s) (by simpa [State.reporting, sched] using reporting)
      (.inr hand.symm) (by rw [coord, sched])
    exact prompted.congr_left sched frame.ctl frame.view frame.state frame.line
  · rw [scanTimerEnd_unchanged contacts s any] at hand
    exact absurd rfl hand

/-- A fitted channel whose mode differs after the expiry has had it changed, and only such a channel. -/
theorem modeChanges_iff_mode (contacts : Quad Contacts) (s : State) (k : Chan) :
    modeChanges s contacts k = true ↔
      s.fitted k = true ∧ ((scanTimerEnd contacts s).chan k).mode ≠ (s.chan k).mode := by
  have chan : (scanTimerEnd contacts s).chan k = (modesTaken contacts s).chan k := by
    simp only [State.chan, scanTimerEnd_frame]
  rw [modeChanges_iff, chan, (modesTaken_selector contacts s k).mode]

/-- A station whose notice has been withdrawn by the mode changes ends the event without it (R128). -/
theorem scanTimerEnd_notice (contacts : Quad Contacts) (s : State) (h : (modesTaken contacts s).arb = s.arb.dropped) :
    (scanTimerEnd contacts s).arb.notice = none ∧
      (scanTimerEnd contacts s).arb.holdOff = if s.arb.notice = none then s.arb.holdOff else none := by
  have gone : s.arb.dropped.notice = none := by unfold Arbiter.dropped; split <;> simp_all
  have arb : (scanTimerEnd contacts s).arb = s.arb.dropped := by
    unfold scanTimerEnd; split
    · rw [settle_arb _ _ _ (by rw [h, gone]), h]
    · exact h
  rw [arb]
  exact ⟨gone, by unfold Arbiter.dropped; split <;> simp_all⟩

/-- Settles O14: each channel is sampled and then moved by its own mode change (`modesTaken_still`, `modesTaken_placed`), and a
changed mode ends the event by `settle`. -/
theorem selectorSamplesChangeTheModeAndMoveTheChannel : Obligations.SelectorSamplesChangeTheModeAndMoveTheChannel := by
  intro contacts s running offered
  obtain ⟨ctl, acq, sup, allow, maint, chans, hand, rotation, table, lockout⟩ := scanTimerEnd_frame contacts s
  have chan : ∀ k, (scanTimerEnd contacts s).chan k = (modesTaken contacts s).chan k := fun k => by
    simp only [State.chan, chans]
  refine ⟨_, scanTimerExpiry_eq contacts s running offered, acq, ?channels, ctl, sup, allow, maint, rotation, table, lockout,
    ?figures, scanTimerEnd_speedTarget contacts s, scanTimerEnd_prompted contacts s⟩
  case figures =>
    rintro ⟨k, mode, fitted⟩
    rw [scanTimerEnd_changed contacts s k ((modeChanges_iff_mode contacts s k).2 ⟨fitted, mode⟩)]
    exact settle_formed _ _ _
  case channels =>
    intro k x c d agreed leftOut
    have same : SameSelector (takeSample (s.leftOut k) c x) d := by
      simpa only [d, chan] using modesTaken_selector contacts s k
    obtain ⟨formed, kept, used, unused⟩ := takeSample_selector (s.leftOut k) c x
    rw [leftOut_iff] at used unused
    rw [← same.mode, ← same.selector] at used unused
    rw [← same.combination] at formed kept
    refine ⟨by simp [same.sample], by simp [same.sample2], formed, kept, used, unused, ?still, ?moved⟩
    case still =>
      intro reason
      have ignored : modeChanges s contacts k = false ∨ s.chanState k = none ∨ s.chanState k = some .fault := by
        rcases reason with mode | unfitted | state
        · left; rw [← Bool.not_eq_true, modeChanges_iff_mode]; exact fun h => h.2 mode
        · left; rw [← Bool.not_eq_true, modeChanges_iff_mode]; simp [unfitted]
        · exact .inr state
      obtain ⟨stored, stands⟩ := modesTaken_still contacts s k ignored
      rw [← chan] at stored
      simp only [d, stored, hand]
      simp [stands, c]
    case moved =>
      intro mode fitted placed fault
      have changes := (modeChanges_iff_mode contacts s k).2 ⟨fitted, mode⟩
      obtain ⟨y, state⟩ := Option.ne_none_iff_exists'.1 placed
      have place : ∀ m, d.mode = some m → (m ≠ .auto ∨ y = .disabled ∨ y = .inLocal) →
          Placed s (scanTimerEnd contacts s) k d.mode := by
        intro m hm moves
        have there := modesTaken_placed contacts s k changes state (fun e => fault (e ▸ state))
          (by rw [← chan]; exact hm) moves
        rw [hm]
        exact there.congr rfl rfl (chan k).symm (by rw [hand])
      refine ⟨fun off => place _ off (.inl (by decide)), fun toHand => place _ toHand (.inl (by decide)), ?_, ?_⟩
      · intro auto before
        refine place _ auto (.inr ?_)
        simpa [state] using before
      · intro mode notice
        exact scanTimerEnd_notice contacts s (modesTaken_notice contacts s k changes notice (by rw [← chan]; exact mode))

end Sys2Proof.Machine
end

section
/-! PROOFS. The start sequence: what each shared operation keeps of it, and with that each command (chapters 2, 3, 5 and 10). -/
namespace Sys2Proof.Machine

/-! ## The start sequence under a change of one block -/

/-- The start sequence says nothing of acquisition, view, allowance, dispatch, arbiter, supervision and maintenance port, and of the
channels it says only which have a state. -/
theorem StartSequence.congr {s t : State} (h : StartSequence s) (ctl : t.ctl = s.ctl) (port : t.port = s.port)
    (sched : t.sched = s.sched) (alloc : t.alloc = s.alloc)
    (chans : ∀ k, t.chanState k = none ↔ s.chanState k = none) : StartSequence t := by
  have fits : ∀ k, t.fitted k = s.fitted k := fun k => by simp only [State.fitted, State.pump, State.cfg, ctl]
  obtain ⟨held, before, testing, after, coord, quiet, unplaced, fitted, queue, lineFault, listen, report, timer, target⟩ := h
  constructor <;> simp only [ctl, port, sched, alloc, State.reporting, chans, fits, ne_eq] <;> assumption

/-- A channel has a state from the hand-over on (R137). -/
theorem StartSequence.handedOver_of_chanState {s : State} (h : StartSequence s) {k : Chan} (placed : s.chanState k ≠ none) :
    s.ctl.step = .handedOver := by
  by_contra step
  exact placed (h.unplaced step k)

/-- A port that has left OFF and SELFTEST is one after the hand-over (R182). -/
theorem StartSequence.handedOver_of_port {s : State} (h : StartSequence s) (off : s.port.state ≠ .off)
    (selftest : s.port.state ≠ .selftest) : s.ctl.step = .handedOver := by
  by_contra step
  by_cases test : s.ctl.step = .selftest
  · exact selftest (h.testing test).1
  · exact off (h.before test step).1

/-- A change of the port that leaves its state and its LINE_FAULT timer, and queues and sends nothing outside ACTIVE. -/
theorem StartSequence.setPort {s : State} (h : StartSequence s) (p : Port)
    (queue : s.port.state ≠ .active → p.queue = .empty ∧ p.tx = none) (state : p.state = s.port.state := by rfl)
    (timer : p.lineFaultTimer.isSome = s.port.lineFaultTimer.isSome := by rfl) : StartSequence (s.setPort p) where
  held := h.held
  before := by simpa [state] using h.before
  testing := by simpa [state] using h.testing
  after := by simpa [state] using h.after
  coord := h.coord
  quiet := h.quiet
  unplaced := h.unplaced
  fitted := h.fitted
  queue := by simpa only [State.setPort_port, state] using queue
  lineFault := by simpa only [State.setPort_port, state, timer] using h.lineFault
  listenTimer := h.listenTimer
  reportTimer := h.reportTimer
  allocTimer := h.allocTimer
  target := h.target

/-- A move of the port to another state of service, with the LINE_FAULT timer and the queue as that state has them. -/
theorem StartSequence.movePort {s : State} (h : StartSequence s) (step : s.ctl.step = .handedOver) (p : Port)
    (off : p.state ≠ .off) (selftest : p.state ≠ .selftest)
    (queue : p.state ≠ .active → p.queue = .empty ∧ p.tx = none)
    (timer : p.lineFaultTimer.isSome = true ↔ p.state = .lineFault) : StartSequence (s.setPort p) where
  held := h.held
  before _ handed := absurd step handed
  testing test := by simp [step] at test
  after _ := ⟨off, selftest, (h.after step).2.2⟩
  coord := h.coord
  quiet := h.quiet
  unplaced := h.unplaced
  fitted := h.fitted
  queue := queue
  lineFault := timer
  listenTimer := h.listenTimer
  reportTimer := h.reportTimer
  allocTimer := h.allocTimer
  target := h.target

/-- A change of the scheduler's marks and of the spacing timer, from the hand-over on. -/
theorem StartSequence.setSched {s : State} (h : StartSequence s) (x : Scheduler) (stands : s.sched.coord.isSome = true)
    (coord : x.coord = s.sched.coord := by rfl) (listen : x.listenTimer.isSome = s.sched.listenTimer.isSome := by rfl)
    (report : x.reportTimer.isSome = s.sched.reportTimer.isSome := by rfl) : StartSequence (s.setSched x) where
  held := h.held
  before := h.before
  testing := h.testing
  after := h.after
  coord := by simpa [coord] using h.coord
  quiet none := by simp_all
  unplaced := h.unplaced
  fitted := h.fitted
  queue := h.queue
  lineFault := h.lineFault
  listenTimer := by simpa only [State.setSched_sched, listen, coord] using h.listenTimer
  reportTimer := by simpa only [State.setSched_sched, report, State.reporting, coord] using h.reportTimer
  allocTimer := by simpa [State.reporting, coord] using h.allocTimer
  target := by simpa [coord] using h.target

/-- A change of the allocation unit's figures, with Q_tgt 0 outside COORDINATING (R95). -/
theorem StartSequence.setAlloc {s : State} (h : StartSequence s) (x : Allocation)
    (target : s.sched.coord ≠ some .coordinating → x.qTgt = 0)
    (timer : x.timer.isSome = s.alloc.timer.isSome := by rfl) : StartSequence (s.setAlloc x) where
  held := h.held
  before := h.before
  testing := h.testing
  after := h.after
  coord := h.coord
  quiet := h.quiet
  unplaced := h.unplaced
  fitted := h.fitted
  queue := h.queue
  lineFault := h.lineFault
  listenTimer := h.listenTimer
  reportTimer := h.reportTimer
  allocTimer := by simpa [timer] using h.allocTimer
  target := target

/-- The steps before the acceptance: the controller moves, and neither port nor configuration with it. -/
theorem StartSequence.setCtl {s : State} (h : StartSequence s) (x : Controller)
    (early : s.ctl.step ≠ .selftest) (early' : s.ctl.step ≠ .handedOver)
    (test : x.step ≠ .selftest) (handed : x.step ≠ .handedOver) (config : x.config = s.ctl.config)
    (held : x.resetHeld = true → x.step = .powerup) : StartSequence (s.setCtl x) where
  held := held
  before _ _ := ⟨(h.before early early').1, config.trans (h.before early early').2⟩
  testing step := absurd step test
  after step := absurd step handed
  coord := by
    have off := (not_congr h.coord).2 early'
    simp [off, handed]
  quiet := h.quiet
  unplaced _ := h.unplaced early'
  fitted k placed := absurd (h.unplaced early' k) placed
  queue := h.queue
  lineFault := h.lineFault
  listenTimer := h.listenTimer
  reportTimer := h.reportTimer
  allocTimer := h.allocTimer
  target := h.target

/-- A change of the controller that leaves start step, held reset and configuration. -/
theorem StartSequence.setCtl_same {s : State} (h : StartSequence s) (x : Controller) (step : x.step = s.ctl.step := by rfl)
    (held : x.resetHeld = s.ctl.resetHeld := by rfl) (config : x.config = s.ctl.config := by rfl) : StartSequence (s.setCtl x) := by
  have fits : ∀ k, (s.setCtl x).fitted k = s.fitted k := fun k => by
    simp only [State.fitted, State.pump, State.cfg, State.setCtl_ctl, config]
  obtain ⟨held', before, testing, after, coord, quiet, unplaced, fitted, queue, lineFault, listen, report, timer, target⟩ := h
  constructor <;>
    simp only [State.setCtl_ctl, State.setCtl_port, State.setCtl_sched, State.setCtl_alloc, State.setCtl_reporting,
      State.setCtl_chanState, step, held, config, fits] <;> assumption

/-! ## What the shared operations keep -/

/-- Reporting stations have been handed over. -/
theorem coord_of_reporting {s : State} (h : s.reporting = true) : s.sched.coord.isSome = true := by
  unfold State.reporting at h
  cases coord : s.sched.coord <;> simp_all

theorem moveChan_startSequence {s : State} (h : StartSequence s) (step : s.ctl.step = .handedOver) (k : Chan)
    (fits : s.fitted k = true) (c : Channel) : StartSequence (moveChan s k c) where
  held := h.held
  before := h.before
  testing := h.testing
  after := h.after
  coord := h.coord
  quiet := h.quiet
  unplaced early := absurd step early
  fitted j placed := by
    by_cases same : j = k
    · subst same; exact fits
    · exact h.fitted j (by simpa only [State.chanState, moveChan_chan, if_neg same] using placed)
  queue := h.queue
  lineFault := h.lineFault
  listenTimer := h.listenTimer
  reportTimer := h.reportTimer
  allocTimer := h.allocTimer
  target := h.target

/-- A channel that has a state may be moved. -/
theorem moveChan_placed_startSequence {s : State} (h : StartSequence s) {k : Chan} (placed : s.chanState k ≠ none)
    (c : Channel) : StartSequence (moveChan s k c) :=
  moveChan_startSequence h (h.handedOver_of_chanState placed) k (h.fitted k placed) c

theorem composeStage_startSequence {s : State} (h : StartSequence s) (reporting : s.reporting = true) :
    StartSequence (composeStage s) := by
  have stands := coord_of_reporting reporting
  have timer : s.sched.reportTimer.isSome = true := h.reportTimer.trans reporting
  have recorded : StartSequence (s.setRecord s.own { s.record s.own with report := some (stagePayload s) }) :=
    h.congr rfl rfl rfl rfl fun _ => .rfl
  have marked := recorded.setSched { s.sched with
      counter := (s.sched.counter + 1) % 256, reportTimer := some (reportPeriod s.cfg * 1000), prompt := false }
    stands (report := timer.symm)
  unfold composeStage offerStage
  dsimp only
  split
  case isTrue active => exact marked.setPort _ fun other => absurd active other
  case isFalse => exact marked

theorem promptCause_startSequence {s : State} (h : StartSequence s) : StartSequence (promptCause s) := by
  unfold promptCause
  split
  case isTrue reporting =>
    split
    · exact composeStage_startSequence h reporting
    · exact h.setSched _ (coord_of_reporting reporting)
  case isFalse => exact h

theorem promptCauses_startSequence {s : State} (h : StartSequence s) (n : Nat) : StartSequence (promptCauses n s) := by
  induction n generalizing s with
  | zero => exact h
  | succ n ih => exact ih (promptCause_startSequence h)

theorem stageLost_startSequence {s : State} (h : StartSequence s) : StartSequence (stageLost s) := by
  unfold stageLost
  split
  case isTrue pending =>
    simp only [Bool.and_eq_true] at pending
    exact composeStage_startSequence h pending.1.1
  case isFalse => exact h

/-- LEAVING ends in LEFT, with report and allocation timer stopped (R56). -/
theorem quitEnded_startSequence {s : State} (h : StartSequence s) : StartSequence (quitEnded s) := by
  unfold quitEnded
  split
  case isFalse => exact h
  case isTrue leaving =>
    have step : s.ctl.step = .handedOver := h.coord.1 (by simp [leaving])
    have listen : s.sched.listenTimer = none := by simpa [leaving] using h.listenTimer
    have qTgt : s.alloc.qTgt = 0 := h.target (by simp [leaving])
    exact
      { held := h.held, before := h.before, testing := h.testing, after := h.after
        coord := by simp [enterLeft, step]
        quiet := by simp [enterLeft]
        unplaced := h.unplaced, fitted := h.fitted
        queue := fun other => by
          obtain ⟨queue, tx⟩ := h.queue (by simpa using other)
          simp [enterLeft, queue, tx, TxQueue.empty]
        lineFault := by simpa using h.lineFault
        listenTimer := by simp [enterLeft, listen]
        reportTimer := by simp [enterLeft, State.reporting]
        allocTimer := by simp [enterLeft, State.reporting]
        target := by simp [enterLeft, qTgt] }

theorem startEnded_startSequence {s : State} (h : StartSequence s) (n : Nat) : StartSequence (startEnded s n) :=
  h.congr (by simp) (by simp) (by simp) (by simp) (by simp [State.chanState, State.chan])

theorem quitTest_startSequence {s : State} (h : StartSequence s) : StartSequence (quitTest s) := by
  unfold quitTest
  split
  case isFalse => exact h
  case isTrue due =>
    have offered := h.setSched { s.sched with quitOffered := true } (by simp [due.1])
    unfold offerQuit
    dsimp only
    split
    case isFalse => exact quitEnded_startSequence offered
    case isTrue active =>
      have queued := offered.setPort { s.port with queue := { s.port.queue with
        start := none, quit := some { reason := 1, number := (s.sched.counter + 255) % 256 } } } (fun other => absurd active other)
      split
      · exact startEnded_startSequence queued _
      · exact queued

theorem settle_startSequence {s : State} (h : StartSequence s) (s0 : State) (n : Nat) : StartSequence (settle s0 n s) := by
  have figures : ∀ u : State, u.ctl = s.ctl → u.port = s.port → u.sched = s.sched → u.alloc = s.alloc → u.chans = s.chans →
      StartSequence u := fun u ctl port sched alloc chans =>
    h.congr ctl port sched alloc fun k => by simp only [State.chanState, State.chan, chans]
  have formed : StartSequence (if speedTargetDue s0 (reform s) then formNt (reform s) else reform s) := by
    split <;> exact figures _ (by simp) (by simp) (by simp) (by simp) (by simp)
  simp only [settle]
  generalize (if speedTargetDue s0 (reform s) then formNt (reform s) else reform s) = u at formed
  split
  · exact quitTest_startSequence (promptCauses_startSequence formed _)
  · exact promptCauses_startSequence formed _

end Sys2Proof.Machine
end

section
/-! PROOFS. The start sequence, continued: the channel moves, the departures of the port, reception, the entry to JOINING and the
acceptance (chapters 2, 3, 8 and 10). -/
namespace Sys2Proof.Machine

/-! ## Channel moves -/

theorem chanState_ne_none_of_isIn {s : State} {k : Chan} {x : ChanState} (h : s.isIn k x = true) : s.chanState k ≠ none := by
  intro none
  simp [State.isIn, none] at h

theorem chanState_ne_none_of_inR {s : State} {k : Chan} (h : s.inR k = true) : s.chanState k ≠ none := by
  intro none
  simp [State.inR, State.isIn, none] at h

theorem chanState_ne_none_of_turning {s : State} {k : Chan} (h : s.turning k = true) : s.chanState k ≠ none := by
  intro none
  simp [State.turning, State.inR, State.isIn, none] at h

theorem enterResting_startSequence {s : State} (h : StartSequence s) (step : s.ctl.step = .handedOver) (k : Chan)
    (fits : s.fitted k = true) : StartSequence (enterResting s k) := by
  unfold enterResting; split <;> exact moveChan_startSequence h step k fits _

theorem placeByMode_startSequence {s : State} (h : StartSequence s) (step : s.ctl.step = .handedOver) (k : Chan)
    (fits : s.fitted k = true) : StartSequence (placeByMode s k) := by
  unfold placeByMode; split
  · exact enterResting_startSequence h step k fits
  · exact moveChan_startSequence h step k fits _
  · exact moveChan_startSequence h step k fits _
  · exact h

theorem stopOrder_startSequence (s : State) (k : Chan) (h : StartSequence s) : StartSequence (stopOrder s k) := by
  unfold stopOrder; split
  case isTrue inR => exact moveChan_placed_startSequence h (chanState_ne_none_of_inR inR) _
  case isFalse => exact h

theorem dryRunOrder_startSequence (s : State) (k : Chan) (h : StartSequence s) : StartSequence (dryRunOrder s k) := by
  unfold dryRunOrder; split
  case isTrue turning =>
    have placed := chanState_ne_none_of_turning turning
    exact enterResting_startSequence h (h.handedOver_of_chanState placed) k (h.fitted k placed)
  case isFalse => exact h

theorem backToIdle_startSequence {s : State} (h : StartSequence s) (k : Chan) : StartSequence (backToIdle s k) := by
  unfold backToIdle; split
  case isTrue notice => exact moveChan_placed_startSequence h (chanState_ne_none_of_isIn notice) _
  case isFalse => exact h

theorem startOrder_startSequence {s : State} (h : StartSequence s) (k : Chan) : StartSequence (startOrder s k) := by
  unfold startOrder; split
  case isTrue notice =>
    exact (moveChan_placed_startSequence h (chanState_ne_none_of_isIn notice) _).congr rfl rfl rfl rfl fun _ => .rfl
  case isFalse => exact h

theorem setSup_startSequence {s : State} (h : StartSequence s) (x : Supervision) : StartSequence (s.setSup x) :=
  h.congr rfl rfl rfl rfl fun _ => .rfl

theorem latchFault_startSequence {s : State} (h : StartSequence s) (k : Chan) (kind : FaultKind) :
    StartSequence (latchFault s k kind) := by
  unfold latchFault; split
  case isTrue turning =>
    refine moveChan_placed_startSequence (setSup_startSequence h _) ?_ _
    exact chanState_ne_none_of_turning turning
  case isFalse => exact setSup_startSequence h _

theorem latchesArrive_startSequence {s : State} (h : StartSequence s) : StartSequence (latchesArrive s) := by
  have arrive : ∀ u k, StartSequence u → StartSequence (latchArrives u k) := by
    intro u k hu
    unfold latchArrives; split
    · exact latchFault_startSequence hu k _
    · exact hu
  unfold latchesArrive; split
  · exact h
  · exact settle_startSequence (setSup_startSequence (forChans_keeps arrive s h) _) _ _

theorem clearFaultLatches_startSequence {s : State} (h : StartSequence s) : StartSequence (clearFaultLatches s) := by
  have leave : ∀ u k, StartSequence u → StartSequence (if u.isIn k .fault then placeByMode u k else u) := by
    intro u k hu
    split
    case isTrue fault =>
      have placed := chanState_ne_none_of_isIn fault
      exact placeByMode_startSequence hu (hu.handedOver_of_chanState placed) k (hu.fitted k placed)
    case isFalse => exact hu
  have cleared := setSup_startSequence h { s.sup with watch := ⟨.reset, .reset, .reset, .reset⟩ }
  unfold clearFaultLatches
  apply latchesArrive_startSequence
  split
  · exact settle_startSequence (forChans_keeps (f := fun u k => if u.isIn k .fault then placeByMode u k else u) leave _ cleared) _ _
  · exact cleared

/-! ## The own notice -/

theorem dropNotice_startSequence {s : State} (h : StartSequence s) : StartSequence (dropNotice s) := by
  unfold dropNotice
  split
  case h_2 => exact h
  case h_1 n _ =>
    have withdrawn : StartSequence (withdrawStart s n) := by
      unfold withdrawStart
      split
      · refine h.setPort _ fun other => ?_
        obtain ⟨queue, tx⟩ := h.queue other
        simp [queue, tx, TxQueue.empty]
      · refine h.setPort _ fun other => ?_
        obtain ⟨queue, tx⟩ := h.queue other
        simp [queue, tx]
      · exact h
    exact withdrawn.congr rfl rfl rfl rfl fun _ => .rfl

theorem withdrawNotice_startSequence {s : State} (h : StartSequence s) : StartSequence (withdrawNotice s) := by
  unfold withdrawNotice; split
  · exact backToIdle_startSequence (dropNotice_startSequence h) _
  · exact h

theorem startRequest_startSequence {s : State} (h : StartSequence s) (k : Chan) : StartSequence (startRequest s k) := by
  unfold startRequest
  split
  case isFalse => exact h
  case isTrue taken =>
    simp only [Bool.and_eq_true] at taken
    have moved := moveChan_placed_startSequence h (chanState_ne_none_of_isIn taken.2) (parked (s.chan k) .notice)
    have noticed : ∀ a : Arbiter, StartSequence ((moveChan s k (parked (s.chan k) .notice)).setArb a) := fun a =>
      moved.congr rfl rfl rfl rfl fun _ => .rfl
    dsimp only
    split
    case isTrue active => exact (noticed _).setPort _ fun other => absurd active other
    case isFalse => exact startEnded_startSequence (noticed _) _

/-! ## Departures of the port -/

theorem reportDiscarded_startSequence {s : State} (h : StartSequence s) (onLine : Bool) (f : Frame) :
    StartSequence (reportDiscarded s onLine f) := by
  unfold reportDiscarded
  split
  · exact startEnded_startSequence h _
  · split
    · exact stageLost_startSequence h
    · exact h
  · exact quitEnded_startSequence h

theorem reportDiscardedIf_startSequence {s : State} (h : StartSequence s) (onLine : Bool) (f : Option Frame) :
    StartSequence (reportDiscardedIf s onLine f) := by
  unfold reportDiscardedIf
  split
  · exact reportDiscarded_startSequence h onLine _
  · exact h

/-- A departure to a state of service other than ACTIVE, with the LINE_FAULT timer set as that state has it. -/
theorem leaveActive_startSequence {s : State} (h : StartSequence s) (step : s.ctl.step = .handedOver) (p : Port) (x : PortState)
    (off : x ≠ .off) (selftest : x ≠ .selftest) (timer : p.lineFaultTimer.isSome = true ↔ x = .lineFault) :
    StartSequence (leaveActive (s.setPort p) x) := by
  have left : StartSequence (s.setPort { p with state := x, queue := .empty, tx := none }) :=
    h.movePort step _ off selftest (fun _ => ⟨rfl, rfl⟩) timer
  unfold leaveActive
  exact reportDiscardedIf_startSequence (reportDiscardedIf_startSequence (reportDiscardedIf_startSequence
    (reportDiscardedIf_startSequence left _ _) _ _) _ _) _ _

theorem enterLineFault_startSequence {s : State} (h : StartSequence s) (step : s.ctl.step = .handedOver) :
    StartSequence (enterLineFault s) :=
  leaveActive_startSequence h step _ .lineFault (by decide) (by decide) (by simp)

theorem enterMute_startSequence {s : State} (h : StartSequence s) (step : s.ctl.step = .handedOver) :
    StartSequence (enterMute s) := by
  unfold enterMute; split
  · exact h
  · exact leaveActive_startSequence h step _ .mute (by decide) (by decide) (by simp)

theorem muteOrder_startSequence {s : State} (h : StartSequence s) : StartSequence (muteOrder s) := by
  have service : s.port.state ≠ .off → s.port.state ≠ .selftest → StartSequence (enterMute s) := fun off selftest =>
    enterMute_startSequence h (h.handedOver_of_port off selftest)
  have hold : StartSequence (s.setPort { s.port with muteHeld := true }) := h.setPort _ (by exact h.queue)
  unfold muteOrder
  split <;> rename_i state
  · exact hold
  · exact hold
  · exact service (by simp [state]) (by simp [state])
  · exact service (by simp [state]) (by simp [state])
  · exact service (by simp [state]) (by simp [state])
  · exact h
  · exact h

/-! ## Reception -/

/-- A port that receives is in service. -/
theorem StartSequence.handedOver_of_receives {s : State} (h : StartSequence s) (receives : s.receives = true) :
    s.ctl.step = .handedOver := by
  apply h.handedOver_of_port <;> intro state <;> simp [State.receives, state] at receives

theorem countBad_startSequence {s : State} (h : StartSequence s) (e : ErrorKind) (f : RxFrame) :
    StartSequence (countBad s e f) :=
  h.setPort _ (by exact h.queue)

theorem cutFrame_startSequence {s : State} (h : StartSequence s) (f : Option RxFrame) : StartSequence (cutFrame s f) := by
  unfold cutFrame
  split
  · split
    · exact h
    · exact countBad_startSequence h _ _
  · exact h

theorem setRecord_startSequence {s : State} (h : StartSequence s) (n : Nat) (r : PeerRecord) :
    StartSequence (s.setRecord n r) :=
  h.congr rfl rfl rfl rfl fun _ => .rfl

theorem deliver_startSequence {s : State} (h : StartSequence s) (n : Nat) (f : Frame) : StartSequence (deliver s n f) := by
  have rank : ∀ {u : State}, StartSequence u → StartSequence (rankStart u n) := by
    intro u hu
    unfold rankStart
    split
    · split
      · exact settle_startSequence (withdrawNotice_startSequence hu) _ _
      · exact setRecord_startSequence hu _ _
    · exact hu
  unfold deliver
  split
  · exact setRecord_startSequence h _ _
  · exact setRecord_startSequence h _ _
  · exact rank (setRecord_startSequence h _ _)

theorem lossesEnd_startSequence {s : State} (h : StartSequence s) (fault : Bool) : StartSequence (lossesEnd fault s) := by
  unfold lossesEnd
  split
  case isTrue due =>
    refine enterLineFault_startSequence h (h.handedOver_of_port ?_ ?_) <;> intro state <;> simp [state] at due
  case isFalse => exact h

theorem receiveFrame_startSequence {s : State} (h : StartSequence s) (f : RxFrame) : StartSequence (receiveFrame s f) := by
  unfold receiveFrame
  split
  case isFalse => exact h
  case isTrue receives =>
    have idle : StartSequence (s.setPort { s.port with idle := some 0 }) := h.setPort _ (by exact h.queue)
    have good : ∀ (n count : Nat), StartSequence ((s.setPort { s.port with idle := some 0 }).setPort
        { s.port with idle := some 0, good := count, lastSender := some n, lossCount := 0 }) := fun _ _ =>
      idle.setPort _ (by exact h.queue)
    dsimp only
    split
    case h_1 => exact lossesEnd_startSequence (countBad_startSequence idle _ _) _
    case h_2 n g _ =>
      split
      · exact enterMute_startSequence (good n _) (h.handedOver_of_receives receives)
      · exact lossesEnd_startSequence (deliver_startSequence (good n _) n g) _

/-! ## The entry to JOINING and the acceptance -/

/-- The entry to JOINING from a part in service: it needs no coordination state and no timers before it. -/
theorem enterJoining_startSequence {s : State} (step : s.ctl.step = .handedOver) (held : s.ctl.resetHeld = false)
    (config : s.ctl.config.isSome = true) (off : s.port.state ≠ .off) (selftest : s.port.state ≠ .selftest)
    (fitted : ∀ k, s.chanState k ≠ none → s.fitted k = true)
    (queue : s.port.state ≠ .active → s.port.queue = .empty ∧ s.port.tx = none)
    (lineFault : s.port.lineFaultTimer.isSome = true ↔ s.port.state = .lineFault) : StartSequence (enterJoining s) := by
  have marked : ∀ x : Scheduler, x.coord = some .joining → x.listenTimer.isSome = true → x.reportTimer = none →
      StartSequence ((s.setSched x).setAlloc .reset) := by
    intro x joining listen report
    constructor
    case held => simp [held]
    case before => simp [step]
    case testing => simp [step]
    case after => simp [off, selftest, config]
    case coord => simp [joining, step]
    case quiet => simp [joining]
    case unplaced => simp [step]
    case fitted => exact fitted
    case queue => exact queue
    case lineFault => exact lineFault
    case listenTimer => simp [joining, listen]
    case reportTimer => simp [joining, report, State.reporting]
    case allocTimer => simp [joining, State.reporting, Allocation.reset]
    case target => exact fun _ => rfl
  have place : ∀ u k, StartSequence u ∧ u.ctl = s.ctl →
      StartSequence (placeAtJoining u k) ∧ (placeAtJoining u k).ctl = s.ctl := by
    rintro u k ⟨hu, ctl⟩
    refine ⟨?_, by simp [ctl]⟩
    unfold placeAtJoining
    split
    case isTrue due =>
      simp only [Bool.and_eq_true] at due
      exact placeByMode_startSequence hu (by rw [ctl, step]) k due.1
    case isFalse => exact hu
  refine settle_startSequence (forChans_keeps (P := fun u => StartSequence u ∧ u.ctl = s.ctl) place _ ⟨?_, ?_⟩).1 _ _
  · refine dropNotice_startSequence (marked _ ?_ ?_ ?_) <;> rfl
  · simp

/-- The acceptance passes an early part to the self-test (R181, R182). -/
theorem acceptConfig_startSequence {s : State} (h : StartSequence s) (early : s.ctl.step ≠ .selftest)
    (early' : s.ctl.step ≠ .handedOver) (released : s.ctl.resetHeld = false) (c : StationConfig) :
    StartSequence (acceptConfig s c) := by
  have state : s.port.state = .off := (h.before early early').1
  have queue := h.queue (by simp [state])
  have none : s.sched.coord = none := by
    have := (not_congr h.coord).2 early'
    simpa using this
  have unplaced : ∀ k, (acceptConfig s c).chanState k = .none := by
    intro k
    have := h.unplaced early' k
    simp only [State.chanState, acceptConfig_chan]
    split <;> exact this
  exact
    { held := fun held => by simp [acceptConfig, released] at held
      before := fun test => absurd rfl test
      testing := fun _ => ⟨rfl, rfl⟩
      after := fun handed => by simp [acceptConfig] at handed
      coord := by simp [none]; simp [acceptConfig]
      quiet := fun _ => by simpa using h.quiet none
      unplaced := fun _ => unplaced
      fitted := fun k placed => absurd (unplaced k) placed
      queue := fun _ => queue
      lineFault := by
        have := h.lineFault
        simp only [state] at this
        simpa [acceptConfig] using this
      listenTimer := by simpa using h.listenTimer
      reportTimer := by simpa [State.reporting] using h.reportTimer
      allocTimer := by simp [acceptConfig, Allocation.reset, State.reporting, none]
      target := fun _ => rfl }

theorem judgeImage_startSequence {s : State} (h : StartSequence s) (early : s.ctl.step ≠ .selftest)
    (early' : s.ctl.step ≠ .handedOver) (released : s.ctl.resetHeld = false) (img : List Byte) :
    StartSequence (judgeImage s img) := by
  unfold judgeImage
  split
  · exact h.setCtl_same _
  · exact acceptConfig_startSequence h early early' released _

/-- A part past POWERUP is out of reset (R170). -/
theorem StartSequence.released {s : State} (h : StartSequence s) (step : s.ctl.step ≠ .powerup) : s.ctl.resetHeld = false := by
  by_contra held
  exact step (h.held (by simpa using held))

end Sys2Proof.Machine
end

section
/-! PROOFS. The start sequence, concluded: each command keeps it, and so does every step (O54, O55). -/
namespace Sys2Proof.Machine

/-- A command answers a next state that meets `P`. -/
def Leads (P : State → Prop) (o : Host.Outcome State Fault Refusal) : Prop := ∃ t, o = .next t ∧ P t

/-- What every command leads to from every state that has it, every step keeps. -/
theorem step_keeps {P : State → Prop} (queue : ∀ s rest, P s → P { s with pending := rest })
    (command : ∀ c s, P s → Leads P (exec c s)) {s t : State} (h : P s) (next : step s = .next t) : P t := by
  unfold step at next
  split at next
  · cases next; exact h
  case h_2 c rest _ =>
    obtain ⟨u, run, hu⟩ := command c _ (queue s rest h)
    rw [run] at next
    cases next; exact hu

/-! ## Start-up (chapter 10) -/

/-- Every block at its reset value, with a controller that holds the part in reset (R170). -/
theorem resetBlocks_startSequence (s : State) (ctl : Controller) (rotation : Option (List Nat)) (step : ctl.step = .powerup)
    (config : ctl.config = none) : StartSequence (resetBlocks s ctl rotation) where
  held _ := step
  before _ _ := ⟨rfl, config⟩
  testing test := by simp [resetBlocks, step] at test
  after handed := by simp [resetBlocks, step] at handed
  coord := by simp [resetBlocks, State.reset, Scheduler.reset, step]
  quiet _ := rfl
  unplaced _ k := by cases k <;> rfl
  fitted k placed := by cases k <;> exact absurd rfl placed
  queue _ := ⟨rfl, rfl⟩
  lineFault := by simp [resetBlocks, State.reset, Port.reset]
  listenTimer := by simp [resetBlocks, State.reset, Scheduler.reset]
  reportTimer := rfl
  allocTimer := rfl
  target _ := rfl

/-- A part in POWERUP out of reset passes to CLOCKSTART (R172). -/
theorem enterClockstart_startSequence {s : State} (h : StartSequence s) (step : s.ctl.step = .powerup)
    (released : s.ctl.resetHeld = false) : StartSequence (enterClockstart s) :=
  h.setCtl _ (by simp [step]) (by simp [step]) (by simp) (by simp) rfl (by simp [released])

theorem execResetRelease_startSequence {s : State} (h : StartSequence s) : Leads StartSequence (execResetRelease s) := by
  refine ⟨_, rfl, ?_⟩
  split
  case isFalse => exact h
  case isTrue due =>
    simp only [Bool.and_eq_true] at due
    have step := h.held due.1
    have released : StartSequence (s.setCtl { s.ctl with resetHeld := false, external := false }) :=
      h.setCtl _ (by simp [step]) (by simp [step]) (by simp [step]) (by simp [step]) rfl (by simp)
    dsimp only
    split
    · exact enterClockstart_startSequence released step rfl
    · exact released

theorem execPowerUpDelayExpiry_startSequence {s : State} (h : StartSequence s) :
    Leads StartSequence (execPowerUpDelayExpiry s) := by
  refine ⟨_, rfl, ?_⟩
  have ended := h.setCtl_same { s.ctl with delay := .ended }
  split
  case isFalse => exact h
  case isTrue =>
    dsimp only
    split
    case isTrue due =>
      simp only [Bool.and_eq_true, Bool.not_eq_true', beq_iff_eq] at due
      exact enterClockstart_startSequence ended due.2 due.1
    case isFalse => exact ended

/-- The end of CLOCKSTART by either event (R173, R175). -/
theorem endClockstart_startSequence {s : State} (h : StartSequence s) (step : s.ctl.step = .clockstart) (straps : Straps) :
    StartSequence (endClockstart s straps) := by
  have released : s.ctl.resetHeld = false := h.released (by simp [step])
  have scanning : StartSequence (s.setAcq { s.acq with scanTimer := some Config.scanPeriod }) :=
    h.congr rfl rfl rfl rfl fun _ => .rfl
  rw [endClockstart, enterConfigLoad_eq]
  refine scanning.setCtl _ (by simp [step]) (by simp [step]) ?_ ?_ ?_ ?_ <;> dsimp only <;> split <;> simp [released]

theorem execCrystalStart_startSequence {s : State} (h : StartSequence s) (straps : Straps) :
    Leads StartSequence (execCrystalStart straps s) := by
  refine ⟨_, rfl, ?_⟩
  split
  case isFalse => exact h
  case isTrue due =>
    simp only [Bool.and_eq_true, beq_iff_eq] at due
    have clocked := h.setCtl_same { s.ctl with clock := some .crystal, monitor := true }
    exact endClockstart_startSequence clocked due.2 straps

theorem execClockStartWindowExpiry_startSequence {s : State} (h : StartSequence s) (straps : Straps) :
    Leads StartSequence (execClockStartWindowExpiry straps s) := by
  refine ⟨_, rfl, ?_⟩
  split
  case isFalse => exact h
  case isTrue due =>
    simp only [Bool.and_eq_true, beq_iff_eq] at due
    have clocked := h.setCtl_same { s.ctl with clock := some .fallback, crystalOn := false }
    exact endClockstart_startSequence (muteOrder_startSequence clocked) (by simpa using due.2) straps

theorem execClockMonitorFallback_startSequence {s : State} (h : StartSequence s) :
    Leads StartSequence (execClockMonitorFallback s) := by
  refine ⟨_, rfl, ?_⟩
  split
  · exact muteOrder_startSequence (h.setCtl_same _)
  · exact h

/-- A part that is still in CONFIG_LOAD once its image is judged goes to CONFIG_WAIT or HALTED (R178). -/
theorem imageRefused_startSequence {s : State} (h : StartSequence s) : StartSequence (
    if s.ctl.step = .configLoad then
      s.setCtl { s.ctl with step := if sourceWaits (s.ctl.source.getD 3) then .configWait else .halted }
    else s) := by
  split
  case isFalse => exact h
  case isTrue still =>
    have held := h.released (by simp [still])
    refine h.setCtl _ (by simp [still]) (by simp [still]) ?_ ?_ rfl ?_ <;> dsimp only <;> split <;> simp [held]

theorem execSerialMemoryReadEnd_startSequence {s : State} (h : StartSequence s) (dataIn : List Bool) :
    Leads StartSequence (execSerialMemoryReadEnd dataIn s) := by
  refine ⟨_, by unfold execSerialMemoryReadEnd; rfl, ?_⟩
  split
  case isFalse => exact h
  case isTrue step =>
    generalize clockedIn dataIn = img
    exact imageRefused_startSequence (judgeImage_startSequence (h.setCtl_same { s.ctl with image := some img })
      (by simp [step]) (by simp [step]) (h.released (by simp [step])) img)

theorem execSelftestEnd_startSequence {s : State} (h : StartSequence s) (bytes : List RxByte) :
    Leads StartSequence (execSelftestEnd bytes s) := by
  refine ⟨_, rfl, ?_⟩
  split
  case isFalse => exact h
  case isTrue state =>
    have step : s.ctl.step = .selftest := by
      by_contra other
      by_cases handed : s.ctl.step = .handedOver
      · exact (h.after handed).2.1 state
      · have := (h.before other handed).1
        simp [state] at this
    have released : s.ctl.resetHeld = false := h.released (by simp [step])
    have quiet : s.port.lineFaultTimer = none := by simpa [state] using h.lineFault
    have handOver : ∀ x record, x = .listen ∨ x = .mute ∨ x = .dead → StartSequence (handOver s x record) := by
      intro x record passed
      have unplaced : ∀ k, s.chanState k = none := h.unplaced (by simp [step])
      refine enterJoining_startSequence rfl released (h.testing step).2 ?_ ?_ (fun k placed => absurd (unplaced k) placed)
        (fun _ => h.queue (by simp [state])) ?_
      all_goals rcases passed with rfl | rfl | rfl <;> simp [quiet]
    split
    · exact h
    · split
      · exact handOver _ _ (.inr (.inl rfl))
      · exact handOver _ _ (.inl rfl)
    · exact handOver _ _ (.inr (.inr rfl))

/-! ## Acquisition and supervision (chapters 1 and 9) -/

theorem setAcq_startSequence {s : State} (h : StartSequence s) (x : Acquisition) : StartSequence (s.setAcq x) :=
  h.congr rfl rfl rfl rfl fun _ => .rfl

theorem setDisp_startSequence {s : State} (h : StartSequence s) (x : Dispatch) : StartSequence (s.setDisp x) :=
  h.congr rfl rfl rfl rfl fun _ => .rfl

theorem formTable_startSequence {s : State} (h : StartSequence s) : StartSequence (formTable s) :=
  h.congr (by simp) (by simp) (by simp) (by simp) (by simp [State.chanState, State.chan])

theorem execConversionEnd_startSequence {s : State} (h : StartSequence s) (input : Ain) (current : Nat) :
    Leads StartSequence (execConversionEnd input current s) := by
  refine ⟨_, rfl, ?_⟩
  split
  case isFalse => exact h
  case isTrue => cases input <;> exact setAcq_startSequence h _

theorem modeChange_startSequence (s : State) (k : Chan) (h : StartSequence s) : StartSequence (modeChange s k) := by
  by_cases ignored : s.chanState k = none ∨ s.chanState k = some .fault
  · rw [modeChange_ignored s k ignored]; exact h
  · have placed : s.chanState k ≠ none := (not_or.1 ignored).1
    have left : StartSequence (leaveNotice s k) := by
      unfold leaveNotice; split
      · exact dropNotice_startSequence h
      · exact h
    rcases modeChange_cases s k with same | same | ⟨c, -, same⟩ <;> rw [same]
    · exact h
    · exact left
    · exact moveChan_placed_startSequence left (by simpa [State.chanState] using placed) c

theorem execScanTimerExpiry_startSequence {s : State} (h : StartSequence s) (contacts : Quad Contacts) :
    Leads StartSequence (execScanTimerExpiry contacts s) := by
  refine ⟨_, rfl, latchesArrive_startSequence ?_⟩
  have sampled : StartSequence (sampled contacts s) :=
    h.congr rfl rfl rfl rfl fun k => by simp [State.chanState]
  have changed : ∀ u k, StartSequence u → StartSequence (if modeChanges s contacts k then modeChange u k else u) := by
    intro u k hu
    split
    · exact modeChange_startSequence u k hu
    · exact hu
  split
  case isFalse => exact h
  case isTrue =>
    dsimp only
    split
    · exact settle_startSequence (forChans_keeps (f := fun u k => if modeChanges s contacts k then modeChange u k else u)
        changed _ sampled) _ _
    · exact sampled

theorem judgeLockout_startSequence {s : State} (h : StartSequence s) : StartSequence (judgeLockout s) := by
  unfold judgeLockout
  repeat' split
  case isTrue.isTrue => exact setDisp_startSequence h _
  case isFalse.isTrue =>
    exact withdrawNotice_startSequence (forChans_keeps dryRunOrder_startSequence _ (setDisp_startSequence h _))
  all_goals exact h

theorem superviseChan_startSequence (s : State) (k : Chan) (h : StartSequence s) : StartSequence (superviseChan s k) := by
  unfold superviseChan offerLatch
  split
  case isFalse => exact h
  case isTrue =>
    dsimp only
    split
    · split
      · exact setSup_startSequence (setSup_startSequence h _) _
      · exact latchFault_startSequence (setSup_startSequence h _) k _
    · exact setSup_startSequence h _

theorem followRiver_startSequence {s : State} (h : StartSequence s) : StartSequence (followRiver s) := by
  unfold followRiver
  repeat' split
  case h_1.isTrue stands => exact h.setSched _ stands
  all_goals exact h

theorem execScanCompletion_startSequence {s : State} (h : StartSequence s) :
    Leads StartSequence (execScanCompletion s) := by
  refine ⟨_, rfl, ?_⟩
  have published : StartSequence (publish s) := setAcq_startSequence h _
  split
  case isFalse => exact h
  case isTrue =>
    dsimp only
    split
    case h_1 => exact published
    case h_2 =>
      refine settle_startSequence (followRiver_startSequence (forChans_keeps superviseChan_startSequence _
        (judgeLockout_startSequence (setDisp_startSequence ?_ _)))) _ _
      split
      · exact formTable_startSequence published
      · exact published

theorem execFaultResetSample_startSequence {s : State} (h : StartSequence s) (active : Bool) :
    Leads StartSequence (execFaultResetSample active s) := by
  refine ⟨_, rfl, ?_⟩
  split
  · exact h
  · dsimp only
    split
    · exact clearFaultLatches_startSequence (setSup_startSequence h _)
    · exact setSup_startSequence h _

/-! ## The line port (chapter 2) -/

theorem startPhase_startSequence {s : State} (h : StartSequence s) (n : Nat) (phase : NoticePhase) :
    StartSequence (startPhase s n phase) :=
  h.congr (by simp) (by simp) (by simp) (by simp) (by simp [State.chanState, State.chan])

/-- An own frame is in transmission in ACTIVE alone, from the hand-over on. -/
theorem StartSequence.active_of_tx {s : State} (h : StartSequence s) {t : TxFrame} (tx : s.port.tx = some t) :
    s.port.state = .active ∧ s.sched.coord.isSome = true := by
  have active : s.port.state = .active := by
    by_contra other
    have := (h.queue other).2
    simp [tx] at this
  exact ⟨active, h.coord.2 (h.handedOver_of_port (by simp [active]) (by simp [active]))⟩

theorem execReceiverSync_startSequence {s : State} (h : StartSequence s) : Leads StartSequence (execReceiverSync s) := by
  refine ⟨_, rfl, ?_⟩
  split
  · exact h.setPort _ (by exact h.queue)
  · exact h

theorem execSlotStart_startSequence {s : State} (h : StartSequence s) (idle : Nat) (dominant : Bool) :
    Leads StartSequence (execSlotStart idle dominant s) := by
  refine ⟨_, rfl, ?_⟩
  split
  case isFalse => exact h
  case isTrue due =>
    have active := due.1
    have free : ∀ p : Port, p.state = s.port.state → p.lineFaultTimer = s.port.lineFaultTimer → StartSequence (s.setPort p) :=
      fun p state timer => h.setPort p (fun other => absurd active other) state (by rw [timer])
    split
    · exact h
    · dsimp only
      split
      · exact free _ (by rfl) (by rfl)
      · unfold beginFrame
        split
        · exact startPhase_startSequence (free _ (by rfl) (by rfl)) _ _
        · exact free _ (by rfl) (by rfl)
        · exact free _ (by rfl) (by rfl)

theorem execContentionLoss_startSequence {s : State} (h : StartSequence s) :
    Leads StartSequence (execContentionLoss s) := by
  refine ⟨_, rfl, ?_⟩
  split
  case h_1 => exact h
  case h_2 t tx =>
    have active := (h.active_of_tx tx).1
    have free : ∀ p : Port, p.state = s.port.state → p.lineFaultTimer = s.port.lineFaultTimer → StartSequence (s.setPort p) :=
      fun p state timer => h.setPort p (fun other => absurd active other) state (by rw [timer])
    dsimp only
    split
    · exact reportDiscarded_startSequence (free _ (by rfl) (by rfl)) _ _
    · unfold reportReturned
      split
      · exact startPhase_startSequence (free _ (by rfl) (by rfl)) _ _
      · exact stageLost_startSequence (free _ (by rfl) (by rfl))
      · exact free _ (by rfl) (by rfl)

theorem execDriveFailure_startSequence {s : State} (h : StartSequence s) (f : Option RxFrame) :
    Leads StartSequence (execDriveFailure f s) := by
  refine ⟨_, rfl, ?_⟩
  split
  case isFalse => exact h
  case isTrue due =>
    have step := h.handedOver_of_port (by simp [due.1]) (by simp [due.1])
    have idle := h.setPort { s.port with idle := none } h.queue
    exact enterLineFault_startSequence (cutFrame_startSequence idle f) (by simpa using step)

theorem execStuckLine_startSequence {s : State} (h : StartSequence s) (f : Option RxFrame) :
    Leads StartSequence (execStuckLine f s) := by
  refine ⟨_, rfl, ?_⟩
  split
  case isFalse => exact h
  case isTrue due =>
    have step : s.ctl.step = .handedOver := by
      rcases due with state | state <;> exact h.handedOver_of_port (by simp [state]) (by simp [state])
    have idle := h.setPort { s.port with idle := none } h.queue
    exact enterLineFault_startSequence (cutFrame_startSequence idle f) (by simpa using step)

theorem execLineFaultTimerExpiry_startSequence {s : State} (h : StartSequence s) (stuck : Bool) :
    Leads StartSequence (execLineFaultTimerExpiry stuck s) := by
  refine ⟨_, rfl, ?_⟩
  split
  case isFalse => exact h
  case isTrue due =>
    have step := h.handedOver_of_port (by simp [due.1]) (by simp [due.1])
    have queue := h.queue (by simp [due.1])
    split
    · exact h.setPort _ (by exact h.queue) rfl (by simp [due.2])
    · refine h.movePort step _ ?_ ?_ (fun _ => queue) ?_ <;> dsimp only <;> split <;> simp

theorem execTransmissionComplete_startSequence {s : State} (h : StartSequence s) :
    Leads StartSequence (execTransmissionComplete s) := by
  refine ⟨_, rfl, ?_⟩
  split
  case h_1 => exact h
  case h_2 t tx =>
    obtain ⟨active, stands⟩ := h.active_of_tx tx
    have ended : StartSequence (s.setPort { s.port with
        lastSender := some s.own, lossCount := 0, idle := some 0, tx := none }) :=
      h.setPort _ fun other => absurd active other
    dsimp only
    split
    · exact startEnded_startSequence ended _
    · exact ended.setSched _ stands
    · exact quitEnded_startSequence ended

theorem execSecondsTick_startSequence {s : State} (h : StartSequence s) : Leads StartSequence (execSecondsTick s) := by
  refine ⟨_, rfl, ?_⟩
  split
  · exact h
  · exact h.setPort _ (by exact h.queue)

theorem execAgeingTimerExpiry_startSequence {s : State} (h : StartSequence s) :
    Leads StartSequence (execAgeingTimerExpiry s) := by
  refine ⟨_, rfl, ?_⟩
  split
  · exact h.congr rfl rfl rfl rfl fun _ => .rfl
  · exact h

/-! ## Reports (chapter 3) -/

theorem orderActive_startSequence {s : State} (h : StartSequence s) : StartSequence (orderActive s) := by
  unfold orderActive
  split
  case isFalse => exact h
  case isTrue state =>
    have step := h.handedOver_of_port (by simp [state]) (by simp [state])
    have timer : s.port.lineFaultTimer = none := by simpa [state] using h.lineFault
    exact h.movePort step _ (by simp) (by simp) (by simp) (by simp [timer])

/-- With the first STAGE composed and both timers started a joining station coordinates (R49, R80). -/
theorem coordinate_startSequence {s : State} (h : StartSequence s) (joining : s.sched.coord = some .joining) :
    StartSequence (((composeStage s).setAlloc { (composeStage s).alloc with timer := some Config.allocationPeriod }).setSched
      { (composeStage s).sched with coord := some .coordinating, listenTimer := none }) := by
  have step : s.ctl.step = .handedOver := h.coord.1 (by simp [joining])
  have sched := (composeStage_composed s).sched
  have chan : ∀ k, (composeStage s).chanState k = s.chanState k := fun k => by simp [State.chanState, State.chan]
  have fits : ∀ k, (composeStage s).fitted k = s.fitted k := fun k => by simp [State.fitted, State.pump, State.cfg]
  constructor
  case held => simpa using h.held
  case before => simp [step]
  case testing => simp [step]
  case after => simpa using h.after
  case coord => simp [step]
  case quiet => simp
  case unplaced => simp [step]
  case fitted => simpa [chan, fits] using h.fitted
  case queue =>
    intro other
    have inactive : s.port.state ≠ .active := by simpa using other
    simpa [composeStage_queue s inactive] using h.queue inactive
  case lineFault => simpa using h.lineFault
  case listenTimer => simp
  case reportTimer => simp [sched, State.reporting]
  case allocTimer => simp [State.reporting]
  case target => simp

theorem execListenTimerExpiry_startSequence {s : State} (h : StartSequence s) :
    Leads StartSequence (execListenTimerExpiry s) := by
  refine ⟨_, rfl, ?_⟩
  split
  case isFalse => exact h
  case isTrue due =>
    have formed := formTable_startSequence (orderActive_startSequence h)
    have sched : (orderActive s).sched = s.sched := by unfold orderActive; split <;> rfl
    have silent : (formTable (orderActive s)).reporting = false := by simp [State.reporting, sched, due.1]
    have listened := settle_startSequence formed s 0
    exact coordinate_startSequence listened (by rw [settle_silent _ _ _ silent]; simp [sched, due.1])

theorem execReportTimerExpiry_startSequence {s : State} (h : StartSequence s) :
    Leads StartSequence (execReportTimerExpiry s) := by
  refine ⟨_, rfl, ?_⟩
  split
  case isTrue due => exact composeStage_startSequence h due.1
  case isFalse => exact h

theorem execSpacingTimerExpiry_startSequence {s : State} (h : StartSequence s) :
    Leads StartSequence (execSpacingTimerExpiry s) := by
  refine ⟨_, rfl, ?_⟩
  split
  case isFalse => exact h
  case isTrue running =>
    have stands : s.sched.coord.isSome = true := by
      by_contra none
      simp [h.quiet (by simpa using none), Scheduler.reset] at running
    have stopped := h.setSched { s.sched with spacingTimer := none } stands
    dsimp only
    split
    case isTrue due =>
      simp only [Bool.and_eq_true] at due
      exact composeStage_startSequence stopped due.1
    case isFalse => exact stopped

/-! ## Allocation, dispatch and the channels' timers (chapters 4 to 8) -/

theorem execAllocationTimerExpiry_startSequence {s : State} (h : StartSequence s) :
    Leads StartSequence (execAllocationTimerExpiry s) := by
  refine ⟨_, rfl, ?_⟩
  split
  case isFalse => exact h
  case isTrue =>
    have formed : StartSequence (reform (formTable s)) := setDisp_startSequence (formTable_startSequence h) _
    exact settle_startSequence (formed.setAlloc _ (by exact formed.target)) _ _

theorem decide4_startSequence {s : State} (h : StartSequence s) : StartSequence (decide4 s) := by
  unfold decide4
  dsimp only
  repeat' split
  case isTrue => exact withdrawNotice_startSequence (forChans_keeps stopOrder_startSequence _ h)
  all_goals first
    | exact h
    | exact startRequest_startSequence h _
    | exact stopOrder_startSequence _ _ h

theorem execAllocationCompletion_startSequence {s : State} (h : StartSequence s) :
    Leads StartSequence (execAllocationCompletion s) := by
  refine ⟨_, rfl, latchesArrive_startSequence ?_⟩
  split
  case h_1 => exact h
  case h_2 sn _ =>
    have published : StartSequence (publishAllocation s sn) := by
      have allowed : StartSequence (s.setAllow (evaluate s.cfg sn s.allow)) := h.congr rfl rfl rfl rfl fun _ => .rfl
      exact allowed.setAlloc _ fun other => if_neg other
    dsimp only
    split
    · have decided := settle_startSequence (decide4_startSequence published) (publishAllocation s sn) 0
      exact decided.congr (by simp [dispatchAct]) (by simp [dispatchAct]) (by simp [dispatchAct]) (by simp [dispatchAct])
        (by simp [dispatchAct, State.chanState, State.chan])
    · exact published

theorem execHoldOffExpiry_startSequence {s : State} (h : StartSequence s) : Leads StartSequence (execHoldOffExpiry s) := by
  refine ⟨_, rfl, ?_⟩
  have cleared : ∀ a : Arbiter, StartSequence (s.setArb a) := fun a => h.congr rfl rfl rfl rfl fun _ => .rfl
  split
  · split
    · refine settle_startSequence ?_ _ _
      split
      · exact startOrder_startSequence (cleared _) _
      · exact backToIdle_startSequence (cleared _) _
    · exact h
  · exact h

/-- A channel that keeps its state changes nothing of the sequence. -/
theorem setChan_startSequence {s : State} (h : StartSequence s) (k : Chan) (c : Channel) (state : c.state = s.chanState k) :
    StartSequence (s.setChan k c) :=
  h.congr rfl rfl rfl rfl fun j => by
    by_cases same : j = k
    · subst same; simp [State.chanState, State.setChan_chan, state]
    · simp [State.chanState, State.setChan_chan, same]

theorem slewChan_startSequence (s : State) (k : Chan) (h : StartSequence s) : StartSequence (slewChan s k) := by
  unfold slewChan
  dsimp only
  split
  case h_1 =>
    split
    · exact setChan_startSequence h k _ rfl
    · exact h
  case h_2 => exact setChan_startSequence h k _ rfl
  case h_3 state =>
    have placed : s.chanState k ≠ none := by simp [State.chanState, state]
    split
    · exact enterResting_startSequence h (h.handedOver_of_chanState placed) k (h.fitted k placed)
    · exact setChan_startSequence h k _ rfl
  case h_4 => exact h

theorem execSlewTimerExpiry_startSequence {s : State} (h : StartSequence s) :
    Leads StartSequence (execSlewTimerExpiry s) := by
  refine ⟨_, rfl, latchesArrive_startSequence ?_⟩
  split
  · exact settle_startSequence (forChans_keeps slewChan_startSequence _ h) _ _
  · exact h

theorem execStartWindowExpiry_startSequence {s : State} (h : StartSequence s) (k : Chan) :
    Leads StartSequence (execStartWindowExpiry k s) := by
  refine ⟨_, rfl, latchesArrive_startSequence ?_⟩
  split
  case isFalse => exact h
  case isTrue due =>
    split
    · exact settle_startSequence (latchFault_startSequence h k _) _ _
    · exact settle_startSequence (moveChan_placed_startSequence h (chanState_ne_none_of_isIn due.1) _) _ _

theorem execRestTimerExpiry_startSequence {s : State} (h : StartSequence s) (k : Chan) :
    Leads StartSequence (execRestTimerExpiry k s) := by
  refine ⟨_, rfl, ?_⟩
  split
  case isFalse => exact h
  case isTrue due =>
    exact settle_startSequence (moveChan_placed_startSequence h (chanState_ne_none_of_isIn due.1) _) _ _

/-! ## The maintenance port (chapter 11) -/

theorem setMaint_startSequence {s : State} (h : StartSequence s) (x : Maintenance) : StartSequence (s.setMaint x) :=
  h.congr rfl rfl rfl rfl fun _ => .rfl

theorem respond_startSequence {s : State} (h : StartSequence s) (r : Response) : StartSequence (respond s r) :=
  setMaint_startSequence h _

/-- A coordinating station goes to LEAVING with Q_tgt 0; report and allocation timer run on (R54, R95). -/
theorem leave_startSequence {s : State} (h : StartSequence s) (coordinating : s.sched.coord = some .coordinating) :
    StartSequence ((s.setSched { s.sched with coord := some .leaving }).setAlloc { s.alloc with qTgt := 0 }) := by
  have step : s.ctl.step = .handedOver := h.coord.1 (by simp [coordinating])
  have listen : s.sched.listenTimer = none := by simpa [coordinating] using h.listenTimer
  constructor
  case held => exact h.held
  case before => exact h.before
  case testing => exact h.testing
  case after => exact h.after
  case coord => simp [step]
  case quiet => simp
  case unplaced => exact h.unplaced
  case fitted => exact h.fitted
  case queue => exact h.queue
  case lineFault => exact h.lineFault
  case listenTimer => simp [listen]
  case reportTimer => simpa [State.reporting, coordinating] using h.reportTimer
  case allocTimer => simpa [State.reporting, coordinating] using h.allocTimer
  case target => simp

theorem doLeave_startSequence {s : State} (h : StartSequence s) : StartSequence (doLeave s) := by
  unfold doLeave
  split
  case isFalse => exact respond_startSequence h _
  case isTrue coordinating =>
    exact respond_startSequence (quitTest_startSequence (promptCause_startSequence (leave_startSequence h coordinating))) _

/-- REJOIN: an ACTIVE port goes to LISTEN, and JOINING is entered (R57). -/
theorem doRejoin_startSequence {s : State} (h : StartSequence s) : StartSequence (doRejoin s) := by
  unfold doRejoin
  split
  case isFalse => exact respond_startSequence h _
  case isTrue left =>
    have stands : s.sched.coord.isSome = true := by simp [left]
    have step : s.ctl.step = .handedOver := h.coord.1 stands
    have cleared := h.setSched { s.sched with riverSide := none } stands
    have listening : StartSequence (orderListen (s.setSched { s.sched with riverSide := none })) := by
      unfold orderListen
      split
      case isFalse => exact cleared
      case isTrue active =>
        have timer : s.port.lineFaultTimer = none := by
          have := h.lineFault
          simp only [State.setSched_port] at active
          simpa [active] using this
        exact leaveActive_startSequence cleared step s.port .listen (by decide) (by decide) (by simp [timer])
    have ctl : (orderListen (s.setSched { s.sched with riverSide := none })).ctl = s.ctl := by
      unfold orderListen; split <;> simp
    generalize hu : orderListen (s.setSched { s.sched with riverSide := none }) = u at listening ctl
    have handed : u.ctl.step = .handedOver := by rw [ctl, step]
    obtain ⟨off, selftest, config⟩ := listening.after handed
    have joined := enterJoining_startSequence handed (listening.released (by simp [handed])) config off selftest
      listening.fitted listening.queue listening.lineFault
    exact respond_startSequence (hu ▸ joined) _

theorem doLoad_startSequence {s : State} (h : StartSequence s) (offset : Nat) (bytes : List Byte) :
    StartSequence (doLoad s offset bytes) := by
  unfold doLoad respondErr
  repeat' split
  case isFalse.isFalse.isFalse => exact respond_startSequence (by exact h.setCtl_same _) _
  all_goals exact respond_startSequence h _

theorem doLoadEnd_startSequence {s : State} (h : StartSequence s) : StartSequence (doLoadEnd s) := by
  unfold doLoadEnd respondErr
  split
  case isTrue => exact respond_startSequence h _
  case isFalse step =>
    have waiting : s.ctl.step = .configWait := not_not.1 step
    have judged := judgeImage_startSequence h (by simp [waiting]) (by simp [waiting]) (h.released (by simp [waiting]))
    dsimp only
    split <;> exact respond_startSequence (judged _) _

theorem execute_startSequence {s : State} (h : StartSequence s) (r : Request) : StartSequence (execute s r) := by
  cases r with
  | view n =>
    unfold execute doView; dsimp only
    split <;> exact respond_startSequence h _
  | pump k =>
    unfold execute doPump; dsimp only
    split <;> exact respond_startSequence h _
  | clearFaults => exact respond_startSequence (clearFaultLatches_startSequence h) _
  | clearLine => exact respond_startSequence (by exact h.setPort _ (by exact h.queue)) _
  | leave => exact doLeave_startSequence h
  | rejoin => exact doRejoin_startSequence h
  | load offset bytes => exact doLoad_startSequence h offset bytes
  | loadEnd => exact doLoadEnd_startSequence h
  | status => exact respond_startSequence h _
  | line => exact respond_startSequence h _
  | cause => exact respond_startSequence h _

theorem executeLine_startSequence {s : State} (h : StartSequence s) (l : CompletedLine) : StartSequence (executeLine s l) := by
  unfold executeLine
  split
  · exact respond_startSequence h _
  · exact execute_startSequence h _

theorem submitLine_startSequence {s : State} (h : StartSequence s) (l : CompletedLine) : StartSequence (submitLine s l) := by
  unfold submitLine
  split
  · exact setMaint_startSequence h _
  · exact executeLine_startSequence h l

theorem submitRequest_startSequence {s : State} (h : StartSequence s) (r : Request) :
    Leads StartSequence (.next (submitRequest s r)) := by
  refine ⟨_, rfl, ?_⟩
  unfold submitRequest
  split
  · exact submitLine_startSequence h _
  · exact h

theorem execCharacterReceived_startSequence {s : State} (h : StartSequence s) (c : Byte) (stopLow : Bool) :
    Leads StartSequence (execCharacterReceived c stopLow s) := by
  refine ⟨_, rfl, ?_⟩
  split
  case isFalse => exact h
  case isTrue =>
    have marked : StartSequence (if stopLow then markBad s else s) := by
      split
      · exact setMaint_startSequence h _
      · exact h
    generalize (if stopLow then markBad s else s) = u at marked
    dsimp only
    split
    · unfold completeLine
      dsimp only
      split
      · exact setMaint_startSequence marked _
      · exact submitLine_startSequence (setMaint_startSequence marked _) _
    · split
      · exact marked
      · unfold appendChar
        split <;> exact setMaint_startSequence marked _

theorem execResponseEnd_startSequence {s : State} (h : StartSequence s) : Leads StartSequence (execResponseEnd s) := by
  refine ⟨_, rfl, ?_⟩
  split
  case isFalse => exact h
  case isTrue =>
    dsimp only
    split
    · exact executeLine_startSequence (setMaint_startSequence h _) _
    · exact setMaint_startSequence h _

/-! ## Every command and every step -/

/-- Each command keeps the start sequence. -/
theorem exec_startSequence (c : Instr) (s : State) (h : StartSequence s) : Leads StartSequence (exec c s) := by
  cases c with
  | powerOn => exact ⟨_, rfl, resetBlocks_startSequence _ _ _ rfl rfl⟩
  | brownOut =>
    refine ⟨_, rfl, ?_⟩
    split
    · exact h
    · exact resetBlocks_startSequence _ _ _ rfl rfl
  | externalReset => exact ⟨_, rfl, resetBlocks_startSequence _ _ _ rfl rfl⟩
  | resetRelease => exact execResetRelease_startSequence h
  | powerUpDelayExpiry => exact execPowerUpDelayExpiry_startSequence h
  | brownOutEnd =>
    refine ⟨_, rfl, ?_⟩
    split
    · exact h.setCtl_same _
    · exact h
  | crystalStart straps => exact execCrystalStart_startSequence h straps
  | clockStartWindowExpiry straps => exact execClockStartWindowExpiry_startSequence h straps
  | clockMonitorFallback => exact execClockMonitorFallback_startSequence h
  | serialMemoryReadEnd dataIn => exact execSerialMemoryReadEnd_startSequence h dataIn
  | selftestEnd bytes => exact execSelftestEnd_startSequence h bytes
  | receiverSync => exact execReceiverSync_startSequence h
  | scanTimerExpiry contacts => exact execScanTimerExpiry_startSequence h contacts
  | conversionEnd input current => exact execConversionEnd_startSequence h input current
  | scanCompletion => exact execScanCompletion_startSequence h
  | faultResetSample active => exact execFaultResetSample_startSequence h active
  | slotStart idle dominant => exact execSlotStart_startSequence h idle dominant
  | contentionLoss => exact execContentionLoss_startSequence h
  | driveFailure f => exact execDriveFailure_startSequence h f
  | stuckLine f => exact execStuckLine_startSequence h f
  | lineFaultTimerExpiry stuck => exact execLineFaultTimerExpiry_startSequence h stuck
  | transmissionComplete => exact execTransmissionComplete_startSequence h
  | stageReportReceived f => exact ⟨_, rfl, receiveFrame_startSequence h f⟩
  | startNoticeReceived f => exact ⟨_, rfl, receiveFrame_startSequence h f⟩
  | quitNoticeReceived f => exact ⟨_, rfl, receiveFrame_startSequence h f⟩
  | badFrame f => exact ⟨_, rfl, receiveFrame_startSequence h f⟩
  | secondsTick => exact execSecondsTick_startSequence h
  | listenTimerExpiry => exact execListenTimerExpiry_startSequence h
  | reportTimerExpiry => exact execReportTimerExpiry_startSequence h
  | spacingTimerExpiry => exact execSpacingTimerExpiry_startSequence h
  | ageingTimerExpiry => exact execAgeingTimerExpiry_startSequence h
  | allocationTimerExpiry => exact execAllocationTimerExpiry_startSequence h
  | allocationCompletion => exact execAllocationCompletion_startSequence h
  | holdOffExpiry => exact execHoldOffExpiry_startSequence h
  | slewTimerExpiry => exact execSlewTimerExpiry_startSequence h
  | startWindowExpiry k => exact execStartWindowExpiry_startSequence h k
  | restTimerExpiry k => exact execRestTimerExpiry_startSequence h k
  | characterReceived c stopLow => exact execCharacterReceived_startSequence h c stopLow
  | responseEnd => exact execResponseEnd_startSequence h
  | status => exact submitRequest_startSequence h _
  | view n => exact submitRequest_startSequence h _
  | pump k => exact submitRequest_startSequence h _
  | line => exact submitRequest_startSequence h _
  | cause => exact submitRequest_startSequence h _
  | clearFaults => exact submitRequest_startSequence h _
  | clearLine => exact submitRequest_startSequence h _
  | leave => exact submitRequest_startSequence h _
  | rejoin => exact submitRequest_startSequence h _
  | load offset bytes => exact submitRequest_startSequence h _
  | loadEnd => exact submitRequest_startSequence h _

/-- Settles O55: the queue is no part of the sequence, and each command keeps it (`exec_startSequence`). -/
theorem everyStepKeepsTheStartSequence : Obligations.EveryStepKeepsTheStartSequence := by
  intro s t h next
  exact step_keeps (fun _ _ h => h.congr rfl rfl rfl rfl fun _ => .rfl) exec_startSequence h next

/-! ## The invariants at reset (O54) -/

/-- Settles O54: the reset state is read off. -/
theorem theInvariantsHoldAtReset : Obligations.TheInvariantsHoldAtReset := by
  refine ⟨?sequence, ?channels, ?oneStart, ?view, ?rotation, ?speeds⟩
  case sequence =>
    exact resetBlocks_startSequence State.reset .reset none rfl rfl
  case channels =>
    intro k
    cases k <;> constructor <;> decide
  case oneStart =>
    refine ⟨fun k => ?_, fun j k hj _ => ?_⟩
    · have idle : State.reset.isIn k .notice = false := by cases k <;> rfl
      have none : State.reset.arb.notice = none := rfl
      simp [idle, none]
    · have idle : State.reset.starts j = false := by cases j <;> rfl
      simp [idle] at hj
  case view =>
    have record : ∀ n, State.reset.record n = .absent := fun n => by
      unfold State.record
      rw [List.getD_eq_getElem?_getD]
      exact List.getElem?_getD_replicate_default_eq PeerRecord.absent 24 (n - 1)
    have bare : State.reset.ctl.config = none := rfl
    constructor
    case length => rfl
    case station => simp [bare]
    case blank => exact fun _ => rfl
    case self => simp [bare]
    case peers =>
      intro n _ _ _
      rw [record]
      constructor <;> simp [PeerRecord.absent]
  case rotation => exact fun accepted => nomatch accepted
  case speeds =>
    refine ⟨fun k fits => ?_, fun k run => ?_, fun k running => ?_⟩
    · exact absurd fits (by cases k <;> decide)
    · exact absurd run (by cases k <;> decide)
    · exact absurd running (by cases k <;> decide)

end Sys2Proof.Machine
end

section
/-! PROOFS. Slots, contention, completed transmissions and composed reports (sections 2.3 to 2.5, 3.3). -/
namespace Sys2Proof.Machine

/-! ## Receiver, seconds and the LINE_FAULT timer (O13) -/

/-- Settles O13: each command is one update of the port. -/
theorem theReceiverTheSecondsAndTheLineFaultTimer : Obligations.TheReceiverTheSecondsAndTheLineFaultTimer := by
  intro s
  refine ⟨fun sync => ?_, fun on => ?_, fun off => ?_, fun state running => ⟨?_, ?_⟩⟩
  · simp only [exec, execReceiverSync, sync]; rfl
  · simp only [exec, execSecondsTick, if_neg on]; rfl
  · simp only [exec, execSecondsTick, if_pos off]
  · simp only [exec, execLineFaultTimerExpiry, state, running]; rfl
  · simp only [exec, execLineFaultTimerExpiry, state, running]; rfl

/-! ## The slots of the access wheel (O22) -/

/-- The station's slots come once in every turn of the wheel (R21). -/
theorem isSlot_iff (own : Nat) (last : Option Nat) (idle : Nat) :
    isSlot own last idle = true ↔ ∃ m, idle = 14 + 4 * slotOffset own last + 96 * m := by
  simp only [isSlot, Bool.and_eq_true, decide_eq_true_eq, beq_iff_eq]
  simp only [Config.idleGap, Config.slotLength, Config.wheelTurn]
  constructor
  · rintro ⟨from_first, turn⟩
    exact ⟨(idle - (14 + 4 * slotOffset own last)) / 96, by omega⟩
  · rintro ⟨m, rfl⟩
    omega

/-- The arbiter once the START of a number is in a phase of its notice (R123). -/
def Arbiter.phased (a : Arbiter) (number : Nat) (phase : NoticePhase) : Arbiter :=
  match a.notice with
  | some n => if n.number = number then { a with notice := some { n with phase := phase } } else a
  | none => a

theorem startPhase_eq (s : State) (number : Nat) (phase : NoticePhase) :
    startPhase s number phase = s.setArb (s.arb.phased number phase) := by
  unfold startPhase Arbiter.phased
  cases s.arb.notice with
  | none => rfl
  | some n => by_cases same : n.number = number <;> simp only [same, if_true, if_false]; all_goals rfl

/-- A slot with a queued frame (R21, R22). -/
theorem slotStart_queued (s : State) (idle : Nat) (dominant : Bool) (active : s.port.state = .active) (free : s.port.tx = none)
    (sync : s.port.sync = false) (slot : isSlot s.own s.port.lastSender idle = true) {f : Frame}
    (first : firstQueued s.port.queue = some f) :
    exec (.slotStart idle dominant) s = .next (
      if dominant then s.setPort { s.port with idle := some idle }
      else beginFrame (s.setPort { s.port with idle := some idle }) f) := by
  simp only [exec, execSlotStart, active, free, sync, slot, and_self, if_true, first]

/-- A slot with nothing queued (R22). -/
theorem slotStart_empty (s : State) (idle : Nat) (dominant : Bool) (empty : firstQueued s.port.queue = none) :
    exec (.slotStart idle dominant) s = .next s := by
  simp only [exec, execSlotStart, empty, ite_self]

/-- At any other idle time nothing begins. -/
theorem slotStart_elsewhere (s : State) (idle : Nat) (dominant : Bool) (slot : ¬ isSlot s.own s.port.lastSender idle = true) :
    exec (.slotStart idle dominant) s = .next s := by
  simp [exec, execSlotStart, slot]

/-- Settles O22: `isSlot_iff` names the slots, and `firstQueued` the frame. -/
theorem aSlotBeginsTheFirstQueuedFrame : Obligations.ASlotBeginsTheFirstQueuedFrame := by
  intro m s active free sync offset idle q begun
  have slot : isSlot s.own s.port.lastSender idle = true := (isSlot_iff _ _ _).2 ⟨m, rfl⟩
  have at_slot := fun d f (first : firstQueued s.port.queue = some f) => slotStart_queued s idle d active free sync slot first
  refine ⟨fun p start => ?_, fun p start stage => ?_, fun p start stage quit => ?_, fun some_frame => ?_, fun empty d => ?_,
    fun i d other => slotStart_elsewhere s i d fun slot => ?_⟩
  · have first : firstQueued s.port.queue = some (.start p) := by simp only [firstQueued]; rw [show s.port.queue.start = _ from start]
    rw [at_slot _ _ first]
    simp only [beginFrame, startPhase_eq]
    rfl
  · have first : firstQueued s.port.queue = some (.stage p) := by
      simp only [firstQueued]; rw [show s.port.queue.start = _ from start, show s.port.queue.stage = _ from stage]
    rw [at_slot _ _ first]; rfl
  · have first : firstQueued s.port.queue = some (.quit p) := by
      simp only [firstQueued]
      rw [show s.port.queue.start = _ from start, show s.port.queue.stage = _ from stage, show s.port.queue.quit = _ from quit]
    rw [at_slot _ _ first]; rfl
  · have first : firstQueued s.port.queue ≠ none := by
      intro none
      apply some_frame
      change s.port.queue = _
      rcases h : s.port.queue with ⟨start, stage, quit⟩
      rw [h] at none
      cases start <;> cases stage <;> cases quit <;> simp_all [firstQueued, TxQueue.empty]
    obtain ⟨f, first⟩ := Option.ne_none_iff_exists'.1 first
    rw [at_slot _ _ first]; rfl
  · exact slotStart_empty s idle d (by rw [show s.port.queue = .empty from empty]; rfl)
  · obtain ⟨j, at_j⟩ := (isSlot_iff _ _ _).1 slot
    exact other j at_j

/-! ## Composed reports (O34) -/

/-- Composing touches scheduler, view and the STAGE place of the queue alone. -/
theorem composeStage_eq (s : State) :
    composeStage s = { s with
      sched := (composeStage s).sched, view := (composeStage s).view
      port := { s.port with queue := (composeStage s).port.queue } } := by
  unfold composeStage offerStage
  dsimp only
  split <;> rfl

/-- Settles O34: either timer composes by `composeStage`. -/
theorem reportAndSpacingTimersComposeReports : Obligations.ReportAndSpacingTimersComposeReports := by
  intro s
  refine ⟨fun reporting running => ?_, fun running reporting pending => ?_, fun running still => ?_⟩
  · have run : exec .reportTimerExpiry s = .next (composeStage s) := by
      simp only [exec, execReportTimerExpiry, reporting, running, and_self, if_true]
    exact ⟨_, _, run, composeStage_composed s, composeStage_eq s⟩
  · have run : exec .spacingTimerExpiry s = .next (composeStage (s.setSched { s.sched with spacingTimer := none })) := by
      simp only [exec, execSpacingTimerExpiry, running, if_true]
      exact congrArg _ (if_pos (Bool.and_eq_true_iff.2 ⟨reporting, pending⟩))
    exact ⟨_, _, run, composeStage_composed _, composeStage_eq _⟩
  · have silent : ((s.setSched { s.sched with spacingTimer := none }).reporting && s.sched.prompt) = false := by
      rw [show (s.setSched { s.sched with spacingTimer := none }).reporting = s.reporting from rfl]
      rcases still with h | h <;> simp [h]
    simp only [exec, execSpacingTimerExpiry, running, if_true, State.setSched_sched, silent]
    rfl

/-! ## Contention (O23) -/

/-- The port after a loss, with a queue. -/
def Port.lost (p : Port) (queue : TxQueue) : Port :=
  { p with
    losses := min (p.losses + 1) 65535, lossCount := min (p.lossCount + 1) 16, lastSender := none
    tx := none, queue := queue }

/-- A loss: the frame is discarded for good, or returned to its place in the queue (R23). -/
theorem contentionLoss_eq (s : State) {f : Frame} {withdrawn : Bool} (tx : s.port.tx = some ⟨f, withdrawn⟩) :
    exec .contentionLoss s = .next (
      if lostForGood s.port.queue ⟨f, withdrawn⟩ then reportDiscarded (s.setPort (s.port.lost s.port.queue)) true f
      else reportReturned (s.setPort (s.port.lost (requeue s.port.queue f))) f) := by
  simp only [exec, execContentionLoss, tx]
  rfl

/-- A STAGE that ends while no prompt waits for it has no follower (R52). -/
theorem stageLost_still (s : State) (h : s.sched.prompt = false ∨ s.sched.spacingTimer.isSome = true) : stageLost s = s := by
  unfold stageLost
  rw [if_neg]
  rcases h with h | h
  · simp [h]
  · simp [Option.isNone_eq_false_iff.2 h]

/-- A STAGE that ends with a prompt pending and no spacing timer is followed by another (R52). -/
theorem stageLost_composes (s : State) (reporting : s.reporting = true) (prompt : s.sched.prompt = true)
    (spacing : s.sched.spacingTimer = none) : stageLost s = composeStage s := by
  simp [stageLost, reporting, prompt, spacing]

/-- What is composed after a change of an ACTIVE port that leaves its queue, the STAGE place apart. -/
theorem composeStage_setPort_composed (s : State) (p : Port) (active : s.port.state = .active) (state : p.state = .active)
    (start : p.queue.start = s.port.queue.start) (quit : p.queue.quit = s.port.queue.quit) :
    Composed s (composeStage (s.setPort p)) (stagePayload s) := by
  obtain ⟨number, flags, levels, allocated, station, sched, view, own, queued⟩ := composeStage_composed (s.setPort p)
  refine ⟨number, flags, levels, allocated, station, sched, view, own, queued.trans ?_⟩
  have state' : (s.setPort p).port.state = .active := state
  rw [if_pos state', if_pos active]
  simp only [State.setPort_port, start, quit]
  rfl

/-- A START that no notice carries the number of changes nothing at its end (R123). -/
theorem startEnded_still (s : State) (number : Nat) (h : ∀ n, s.arb.notice = some n → n.number ≠ number) :
    startEnded s number = s := by
  unfold startEnded
  split
  case h_1 n notice => exact if_neg (h n notice)
  case h_2 => rfl

/-- Settles O23: the cases of `contentionLoss_eq` by kind. -/
theorem aContentionLossReturnsOrDiscardsTheFrame : Obligations.AContentionLossReturnsOrDiscardsTheFrame := by
  intro f withdrawn s tx q lost
  have loss := contentionLoss_eq s tx
  refine ⟨?start, ?quit, ?stage, ?followed, ?superseded, ?withdrawn⟩
  case start =>
    rintro p rfl rfl free
    have kept : lostForGood s.port.queue ⟨.start p, false⟩ = false := by simp [lostForGood, show s.port.queue.start = _ from free]
    rw [loss, kept]
    simp only [reportReturned, startPhase_eq]
    rfl
  case quit =>
    rintro p rfl rfl free
    have kept : lostForGood s.port.queue ⟨.quit p, false⟩ = false := by simp [lostForGood, show s.port.queue.quit = _ from free]
    rw [loss, kept]; rfl
  case stage =>
    rintro p rfl rfl free still
    have kept : lostForGood s.port.queue ⟨.stage p, false⟩ = false := by simp [lostForGood, show s.port.queue.stage = _ from free]
    rw [loss, kept]
    simp only [reportReturned]
    exact congrArg _ (stageLost_still _ still)
  case followed =>
    rintro p rfl rfl reporting prompt spacing active
    have follows : ∀ queue, stageLost (s.setPort (s.port.lost queue)) = composeStage (s.setPort (s.port.lost queue)) :=
      fun queue => stageLost_composes _ reporting prompt spacing
    have composed : ∀ queue : TxQueue, queue.start = q.start → queue.quit = q.quit →
        Composed s (composeStage (s.setPort (s.port.lost queue))) (stagePayload s) := fun queue start quit =>
      composeStage_setPort_composed s _ active active start quit
    have port : ∀ queue, (composeStage (s.setPort (s.port.lost queue))).port =
        lost (composeStage (s.setPort (s.port.lost queue))).port.queue := fun queue => by
      rw [composeStage_eq]; rfl
    by_cases superseded : lostForGood s.port.queue ⟨.stage p, false⟩ = true
    · rw [if_pos superseded] at loss
      exact ⟨_, _, loss.trans (congrArg _ (follows _)), composed _ rfl rfl, port _⟩
    · rw [if_neg superseded] at loss
      exact ⟨_, _, loss.trans (congrArg _ (follows _)), composed _ rfl rfl, port _⟩
  case superseded =>
    rintro p rfl newer still
    have gone : lostForGood s.port.queue ⟨.stage p, withdrawn⟩ = true := by
      simp [lostForGood, show s.port.queue.stage.isSome = _ from newer]
    rw [loss, gone]
    simp only [reportDiscarded, if_true]
    exact congrArg _ (stageLost_still _ (.inl still))
  case withdrawn =>
    rintro p rfl reason other
    have gone : lostForGood s.port.queue ⟨.start p, withdrawn⟩ = true := by
      rcases reason with h | h
      · simp [lostForGood, h]
      · simp [lostForGood, show s.port.queue.start.isSome = _ from h]
    rw [loss, gone]
    simp only [reportDiscarded, if_true]
    exact congrArg _ (startEnded_still _ _ other)

/-! ## Completed transmissions (O25) -/

/-- A START that its notice carries the number of starts the hold-off at its end (R123). -/
theorem startEnded_holds (s : State) (number : Nat) (n : OwnNotice) (notice : s.arb.notice = some n) (same : n.number = number) :
    startEnded s number = s.setArb { s.arb with
      notice := some { n with phase := .holding }, holdOff := some (s.cfg.tHold * 1000) } := by
  simp only [startEnded, notice, if_pos same]
  rfl

/-- The port after a completed transmission. -/
def Port.sent (p : Port) (own : Nat) : Port := { p with lastSender := some own, lossCount := 0, idle := some 0, tx := none }

/-- The report on a completed frame (R53, R123). -/
def reportCompleted (s : State) : Frame → State
  | .start p => startEnded s p.number
  | .stage p => stageCompleted s p
  | .quit _ => quitEnded s

theorem transmissionComplete_eq (s : State) {t : TxFrame} (tx : s.port.tx = some t) :
    exec .transmissionComplete s = .next (reportCompleted (s.setPort (s.port.sent s.own)) t.frame) := by
  simp only [exec, execTransmissionComplete, tx]
  rfl

/-- Settles O25: the report of each kind, to a port that has sent its frame. -/
theorem aCompletedTransmissionIsReportedToItsBlock : Obligations.ACompletedTransmissionIsReportedToItsBlock := by
  intro f withdrawn s tx port
  have complete := transmissionComplete_eq s tx
  refine ⟨?held, ?other, ?stage, ?quit⟩
  case held =>
    rintro p n rfl notice same
    exact complete.trans (congrArg _ (startEnded_holds (s.setPort _) _ n notice same))
  case other =>
    rintro p rfl other
    exact complete.trans (congrArg _ (startEnded_still (s.setPort _) _ other))
  case stage =>
    rintro p rfl
    rw [complete]
    cases restarted : p.flags.restarted <;> simp only [reportCompleted, stageCompleted, restarted] <;> simp <;> rfl
  case quit =>
    rintro p rfl leaving
    have ends : quitEnded (s.setPort (s.port.sent s.own)) = enterLeft (s.setPort (s.port.sent s.own)) := if_pos leaving
    rw [complete, reportCompleted, ends]
    rfl

end Sys2Proof.Machine
end

section
/-! PROOFS. The departures of the port: what becomes of the frames it discards, and the mute order (sections 2.5, 2.6 and 2.10). -/
namespace Sys2Proof.Machine

/-! ## The reports on discarded frames (R28, R53, R123) -/

/-- The arbiter with its notice in the hold-off (R123). -/
def Arbiter.holding (a : Arbiter) (c : StationConfig) (n : OwnNotice) : Arbiter :=
  { a with notice := some { n with phase := .holding }, holdOff := some (c.tHold * 1000) }

/-- The arbiter after a frame has ended: the START of its notice starts the hold-off, anything else changes nothing (R123). -/
def Arbiter.ended (a : Arbiter) (c : StationConfig) : Option Frame → Arbiter
  | some (.start p) =>
    match a.notice with
    | some n => if n.number = p.number then a.holding c n else a
    | none => a
  | _ => a

/-- The START of the notice starts the hold-off. -/
theorem Arbiter.ended_same (a : Arbiter) (c : StationConfig) {n : OwnNotice} {p : StartPayload} (notice : a.notice = some n)
    (same : p.number = n.number) : a.ended c (some (.start p)) = a.holding c n := by
  simp only [Arbiter.ended, notice, same, if_true]

/-- Any other frame changes nothing. -/
theorem Arbiter.ended_other (a : Arbiter) (c : StationConfig) (f : Option Frame)
    (other : ∀ n p, a.notice = some n → f = some (.start p) → p.number ≠ n.number) : a.ended c f = a := by
  unfold Arbiter.ended
  split
  case h_2 => rfl
  case h_1 p =>
    split
    case h_2 => rfl
    case h_1 n notice => exact if_neg fun same => other n p notice rfl same.symm

/-- A hold-off that runs is not started otherwise. -/
theorem Arbiter.holding_ended (a : Arbiter) (c : StationConfig) (n : OwnNotice) (f : Option Frame) :
    (a.holding c n).ended c f = a.holding c n := by
  rcases f with _ | (p | p | p)
  · rfl
  · rfl
  · simp only [Arbiter.ended, Arbiter.holding]; split <;> rfl
  · rfl

theorem startEnded_arb (s : State) (p : StartPayload) : (startEnded s p.number).arb = s.arb.ended s.cfg (some (.start p)) := by
  unfold startEnded Arbiter.ended
  cases s.arb.notice with
  | none => rfl
  | some n => by_cases same : n.number = p.number <;> simp only [same, if_true, if_false]; all_goals rfl

/-- A report on a discarded frame reaches the arbiter for a START alone. -/
theorem reportDiscardedIf_arb (s : State) (onLine : Bool) (f : Option Frame) :
    (reportDiscardedIf s onLine f).arb = s.arb.ended s.cfg f := by
  rcases f with _ | (p | p | p)
  · rfl
  · cases onLine
    · rfl
    · simp [reportDiscardedIf, reportDiscarded, Arbiter.ended]
  · exact startEnded_arb s p
  · simp [reportDiscardedIf, reportDiscarded, Arbiter.ended]

/-- A discarded frame other than a QUIT leaves coordination state and allocation unit. -/
theorem reportDiscardedIf_noQuit (s : State) (onLine : Bool) (f : Option Frame) (other : ∀ p, f ≠ some (.quit p)) :
    (reportDiscardedIf s onLine f).sched.coord = s.sched.coord ∧ (reportDiscardedIf s onLine f).alloc = s.alloc := by
  rcases f with _ | (p | p | p)
  · exact ⟨rfl, rfl⟩
  · cases onLine <;> simp [reportDiscardedIf, reportDiscarded]
  · simp [reportDiscardedIf, reportDiscarded]
  · exact absurd rfl (other p)

/-- The station has left: LEFT, with the allocation timer stopped (R56). -/
def HasLeft (s : State) : Prop := s.sched.coord = some .left ∧ s.alloc.timer = none

/-- A discarded QUIT ends LEAVING (R53, R56). -/
theorem reportDiscardedIf_quit (s : State) (onLine : Bool) (p : QuitPayload) (leaving : s.sched.coord = some .leaving) :
    HasLeft (reportDiscardedIf s onLine (some (.quit p))) := by
  simp [HasLeft, reportDiscardedIf, reportDiscarded, quitEnded, leaving, enterLeft]

/-- Whatever is discarded in LEAVING, the station stays there or has left. -/
theorem reportDiscardedIf_leaving (s : State) (onLine : Bool) (f : Option Frame)
    (h : s.sched.coord = some .leaving ∨ HasLeft s) :
    (reportDiscardedIf s onLine f).sched.coord = some .leaving ∨ HasLeft (reportDiscardedIf s onLine f) := by
  by_cases quit : ∃ p, f = some (.quit p)
  · obtain ⟨p, rfl⟩ := quit
    rcases h with leaving | left
    · exact .inr (reportDiscardedIf_quit s onLine p leaving)
    · right
      have stays : reportDiscardedIf s onLine (some (.quit p)) = s := if_neg (by simp [left.1])
      rw [stays]; exact left
  · obtain ⟨coord, alloc⟩ := reportDiscardedIf_noQuit s onLine f (fun p hp => quit ⟨p, hp⟩)
    rw [HasLeft, coord, alloc]; exact h

/-- A station that has left stays so. -/
theorem reportDiscardedIf_left (s : State) (onLine : Bool) (f : Option Frame) (h : HasLeft s) :
    HasLeft (reportDiscardedIf s onLine f) := by
  rcases reportDiscardedIf_leaving s onLine f (.inr h) with leaving | left
  · exfalso
    by_cases quit : ∃ p, f = some (.quit p)
    · obtain ⟨p, rfl⟩ := quit
      have stays : reportDiscardedIf s onLine (some (.quit p)) = s := if_neg (by simp [h.1])
      rw [stays, h.1] at leaving
      simp at leaving
    · rw [(reportDiscardedIf_noQuit s onLine f (fun p hp => quit ⟨p, hp⟩)).1, h.1] at leaving
      simp at leaving
  · exact left

/-- A frame that was queued advances no counter and leaves no prompt behind. -/
theorem reportDiscardedIf_queued (s : State) (f : Option Frame) :
    (reportDiscardedIf s false f).sched.counter = s.sched.counter ∧
      (s.sched.prompt = false → (reportDiscardedIf s false f).sched.prompt = false) := by
  rcases f with _ | (p | p | p)
  · exact ⟨rfl, id⟩
  · exact ⟨rfl, id⟩
  · simp [reportDiscardedIf, reportDiscarded]
  · simp only [reportDiscardedIf, reportDiscarded, quitEnded, enterLeft]
    split <;> simp

/-! ## A departure as a whole (R28; log entry 6) -/

/-- The state in which a departure begins to report: the new state of the port, with nothing queued and nothing sent. -/
def emptied (s : State) (x : PortState) : State := s.setPort { s.port with state := x, queue := .empty, tx := none }

/-- The reports of a departure, in their order. -/
theorem leaveActive_reports (s : State) (x : PortState) :
    leaveActive s x = reportDiscardedIf (reportDiscardedIf (reportDiscardedIf (emptied s x) true (s.port.tx.map (·.frame)))
      false (s.port.queue.start.map .start)) false (s.port.queue.quit.map .quit) := by
  have stage : ∀ u, reportDiscardedIf u false (s.port.queue.stage.map .stage) = u := fun u => by
    cases s.port.queue.stage <;> rfl
  simp only [leaveActive, stage]
  rfl

theorem leaveActive_arb (s : State) (x : PortState) :
    (leaveActive s x).arb = (s.arb.ended s.cfg (s.port.tx.map (·.frame))).ended s.cfg (s.port.queue.start.map .start) := by
  have cfg : ∀ u onLine f, (reportDiscardedIf u onLine f).cfg = u.cfg := fun u onLine f => by simp [State.cfg]
  have quit : ∀ a : Arbiter, a.ended s.cfg (s.port.queue.quit.map .quit) = a := fun a => by
    cases s.port.queue.quit <;> rfl
  have base : (emptied s x).cfg = s.cfg := rfl
  rw [leaveActive_reports]
  simp only [reportDiscardedIf_arb, cfg, base, quit]
  rfl

/-- Before the departure the frame on the line is a QUIT, or none is. -/
theorem txFrame_quit_iff (s : State) :
    (∃ p, s.port.tx.map (·.frame) = some (.quit p)) ↔ ∃ p w, s.port.tx = some ⟨.quit p, w⟩ := by
  rcases s.port.tx with _ | ⟨frame, withdrawn⟩ <;> simp

/-- What becomes of the frames that a departure discards (R28, R52, R53, R56, R123). -/
theorem leaveActive_discards (s : State) (x : PortState) : FramesDiscarded s (leaveActive s x) := by
  constructor
  case start =>
    intro n notice sent
    rw [leaveActive_arb]
    rcases sent with ⟨p, queued, same⟩ | ⟨p, w, tx, same⟩
    · rw [queued]
      by_cases held : ∃ p', s.port.tx.map (·.frame) = some (.start p') ∧ p'.number = n.number
      · obtain ⟨p', tx, same'⟩ := held
        rw [tx, Arbiter.ended_same _ _ notice same', Arbiter.holding_ended]; rfl
      · rw [s.arb.ended_other, Option.map_some, Arbiter.ended_same _ _ notice same]
        · rfl
        · intro n' p' notice' tx same'
          rw [notice] at notice'
          cases notice'
          exact held ⟨p', tx, same'⟩
    · rw [tx, Option.map_some, Arbiter.ended_same _ _ notice same, Arbiter.holding_ended]; rfl
  case noStart =>
    intro other
    rw [leaveActive_arb, s.arb.ended_other, s.arb.ended_other]
    · intro n p notice queued
      cases start : s.port.queue.start with
      | none => simp [start] at queued
      | some p' =>
        simp only [start, Option.map_some, Option.some.injEq, Frame.start.injEq] at queued
        exact queued ▸ (other n notice).1 p' start
    · intro n p notice sent
      rcases tx : s.port.tx with _ | ⟨frame, withdrawn⟩
      · simp [tx] at sent
      · simp only [tx, Option.map_some, Option.some.injEq] at sent
        subst sent
        exact (other n notice).2 p withdrawn tx
  case quit =>
    intro sent leaving
    rw [leaveActive_reports]
    have stays := reportDiscardedIf_leaving _ false (s.port.queue.start.map .start)
      (reportDiscardedIf_leaving (emptied s x) true (s.port.tx.map (·.frame)) (.inl leaving))
    rcases sent with queued | onLine
    · obtain ⟨p, quit⟩ := Option.isSome_iff_exists.1 queued
      rw [quit]
      rcases stays with leaving' | left
      · exact reportDiscardedIf_quit _ false p leaving'
      · exact reportDiscardedIf_left _ false _ left
    · obtain ⟨p, tx⟩ := (txFrame_quit_iff s).2 onLine
      rw [tx]
      exact reportDiscardedIf_left _ _ _ (reportDiscardedIf_left _ _ _ (reportDiscardedIf_quit _ _ _ leaving))
  case noQuit =>
    intro queued sent
    have tx : ∀ p, s.port.tx.map (·.frame) ≠ some (.quit p) := fun p hp => by
      obtain ⟨p', w, h⟩ := (txFrame_quit_iff s).1 ⟨p, hp⟩
      exact sent p' w h
    have start : ∀ p, s.port.queue.start.map Frame.start ≠ some (.quit p) := by cases s.port.queue.start <;> simp
    obtain ⟨coord, alloc⟩ := reportDiscardedIf_noQuit (emptied s x) true _ tx
    obtain ⟨coord', alloc'⟩ := reportDiscardedIf_noQuit
      (reportDiscardedIf (emptied s x) true (s.port.tx.map (·.frame))) false _ start
    rw [leaveActive_reports, queued]
    exact ⟨coord'.trans coord, alloc'.trans alloc⟩
  case stage =>
    rintro ⟨p, w, tx⟩ reporting prompt spacing
    have composed : reportDiscardedIf (emptied s x) true (s.port.tx.map (·.frame)) = composeStage (emptied s x) := by
      rw [tx]; exact stageLost_composes _ reporting prompt spacing
    have sched := (composeStage_composed (emptied s x)).sched
    rw [leaveActive_reports, composed]
    have started := reportDiscardedIf_queued (composeStage (emptied s x)) (s.port.queue.start.map .start)
    have quit := reportDiscardedIf_queued (reportDiscardedIf (composeStage (emptied s x)) false (s.port.queue.start.map .start))
      (s.port.queue.quit.map .quit)
    refine ⟨?_, quit.2 (started.2 (by rw [sched]))⟩
    rw [quit.1, started.1, sched]
    rfl

/-- What `FramesDiscarded` reads of the state before. -/
theorem FramesDiscarded.congr_left {s s' t : State} (h : FramesDiscarded s' t) (queue : s'.port.queue = s.port.queue)
    (tx : s'.port.tx = s.port.tx) (arb : s'.arb = s.arb) (sched : s'.sched = s.sched) (alloc : s'.alloc = s.alloc)
    (ctl : s'.ctl = s.ctl) : FramesDiscarded s t := by
  have cfg : s'.cfg = s.cfg := by simp only [State.cfg, ctl]
  have line : StageOnLine s' = StageOnLine s := by simp only [StageOnLine, tx]
  have reporting : s'.reporting = s.reporting := by simp only [State.reporting, sched]
  obtain ⟨start, noStart, quit, noQuit, stage⟩ := h
  rw [queue, tx, arb, cfg] at start
  rw [queue, tx, arb] at noStart
  rw [queue, tx, sched] at quit
  rw [queue, tx, sched, alloc] at noQuit
  rw [line, reporting, sched] at stage
  exact ⟨start, noStart, quit, noQuit, stage⟩

/-! ## The entry to MUTE (O7) -/

/-- An entry to MUTE from a state that receives (R28, R32, R37). -/
theorem enterMute_eq (s : State) (h : s.port.state ≠ .mute) :
    (enterMute s).port = { s.port with
        state := .mute, lineFaultTimer := none, queue := ⟨none, none, none⟩, tx := none } ∧
      FramesDiscarded s (enterMute s) := by
  have enters : enterMute s = leaveActive (s.setPort { s.port with lineFaultTimer := none }) .mute := if_neg h
  rw [enters]
  exact ⟨leaveActive_eq _ _ (by decide), (leaveActive_discards _ _).congr_left rfl rfl rfl rfl rfl rfl⟩

/-- Settles O7: the fallback gives the mute order, which acts by the state of the port. -/
theorem clockFallbackMutesThePortByItsState : Obligations.ClockFallbackMutesThePortByItsState := by
  intro s crystal
  have run : exec .clockMonitorFallback s = .next (muteOrder (s.setCtl { s.ctl with
      clock := some .fallback, crystalOn := false, monitor := false })) := by
    simp only [exec, execClockMonitorFallback, crystal, if_true]
  generalize fallback : s.setCtl { s.ctl with clock := some .fallback, crystalOn := false, monitor := false } = u at run
  have port : u.port = s.port := by rw [← fallback]; rfl
  refine ⟨_, run, ?ctl, ?held, ?still, ?mutes, ?_, ?_, ?_, ?_, ?_, ?_⟩
  case ctl => rw [(muteOrder_frame u).1, ← fallback]; rfl
  case held =>
    intro early
    have order : muteOrder u = u.setPort { u.port with muteHeld := true } := by
      rcases early with h | h <;> simp [muteOrder, port, h]
    rw [order, ← fallback]; rfl
  case still =>
    intro late
    have order : muteOrder u = u := by
      rcases late with h | h <;> simp [muteOrder, port, h]
    rw [order, ← fallback]; rfl
  case mutes =>
    intro receives
    have order : muteOrder u = enterMute u := by
      rcases receives with h | h | h <;> simp [muteOrder, port, h]
    obtain ⟨muted, discarded⟩ := enterMute_eq u (by rw [port]; rcases receives with h | h | h <;> simp [h])
    rw [order, muted, port]
    refine ⟨rfl, ?_⟩
    obtain ⟨start, noStart, quit, noQuit, stage⟩ := discarded
    subst fallback
    exact ⟨start, noStart, quit, noQuit, stage⟩
  all_goals rw [← fallback]; simp

end Sys2Proof.Machine
end

section
/-! PROOFS. The reception checks (sections 2.2 and 2.7). -/
namespace Sys2Proof.Machine

/-! ## The reception checks, each as a proposition (R29) -/

/-- Four bytes have arrived and their header check holds. -/
def HeaderHolds (d : List Byte) : Prop := 4 ≤ d.length ∧ u8At d 3 = 255 - (u8At d 0 + u8At d 1 + u8At d 2) % 256

/-- Recessive stop bits, a header, and no gap before the expected count of a good header. -/
def FramingHolds (l : List RxByte) : Prop :=
  (∀ b ∈ l, b.stopOk = true) ∧ 4 ≤ l.length ∧ (HeaderHolds (l.map (·.data)) → 6 + u8At (l.map (·.data)) 2 ≤ l.length)

def SenderHolds (d : List Byte) : Prop := 1 ≤ u8At d 1 ∧ u8At d 1 ≤ 24

def KindHolds (d : List Byte) : Prop := u8At d 0 = 0x11 ∨ u8At d 0 = 0x22 ∨ u8At d 0 = 0x33

/-- The length byte is that of the kind. -/
def LengthHolds (d : List Byte) : Prop :=
  (u8At d 0 = 0x11 → u8At d 2 = 24) ∧ (u8At d 0 = 0x22 → u8At d 2 = 6) ∧ (u8At d 0 = 0x33 → u8At d 2 = 2)

/-- The last two bytes are the CRC of the bytes before them. -/
def CrcHolds (d : List Byte) : Prop := be16 (crc16 (d.take (d.length - 2))).toNat = d.drop (d.length - 2)

theorem headerHolds_iff (d : List Byte) : headerHolds d = true ↔ HeaderHolds d := by
  simp [headerHolds, headerCheck, HeaderHolds]

theorem framingFails_iff (l : List RxByte) : framingFails false l = true ↔ ¬ FramingHolds l := by
  simp only [framingFails, FramingHolds, ← headerHolds_iff, Bool.false_or, Bool.or_eq_true, List.any_eq_true,
    Bool.not_eq_true', decide_eq_true_eq, Bool.and_eq_true, not_and_or, not_forall, not_le, Bool.not_eq_true, or_assoc,
    exists_prop]

/-- With a good header the frame ends at its expected count (R20). -/
theorem framePart_of_header {l : List RxByte} (h : HeaderHolds (l.map (·.data))) :
    framePart l = l.take (6 + u8At (l.map (·.data)) 2) :=
  if_pos ((headerHolds_iff _).2 h)

theorem framePart_of_noHeader {l : List RxByte} (h : ¬ HeaderHolds (l.map (·.data))) : framePart l = l :=
  if_neg (mt (headerHolds_iff _).1 h)

/-- A frame that is cut is a FRAMING error (R25, R29). -/
theorem checkFrame_cut (f : RxFrame) : checkFrame true f = .bad .framing := by
  simp [checkFrame, framingFails]

/-- The payload is read as of the kind that the kind byte names (R189). -/
theorem kindCode_readPayload {d : List Byte} (h : KindHolds d) : kindCode (readPayload d) = u8At d 0 := by
  rcases h with h | h | h <;> simp [readPayload, h, kindCode]

/-- The length of each kind (R189). -/
theorem payloadLength_readPayload {d : List Byte} (h : KindHolds d) :
    u8At d 2 = payloadLength (readPayload d) ↔ LengthHolds d := by
  rcases h with h | h | h <;> simp [readPayload, h, payloadLength, LengthHolds]

/-! ## The verdict (O30) -/

/-- What is judged of a received frame (R20). -/
def judged (f : RxFrame) : List RxByte := framePart (rxBytes f)

/-- The bytes of that part. -/
def judgedBytes (f : RxFrame) : List Byte := (judged f).map (·.data)

/-- Each verdict of the checks, with the checks that have held before it (R29). -/
inductive Verdict (f : RxFrame) : Reception → Prop
  | framing : ¬ FramingHolds (judged f) → Verdict f (.bad .framing)
  | headerCheck : FramingHolds (judged f) → ¬ HeaderHolds (judgedBytes f) → Verdict f (.bad .headerCheck)
  | sender : FramingHolds (judged f) → HeaderHolds (judgedBytes f) → ¬ SenderHolds (judgedBytes f) →
      Verdict f (.bad .sender)
  | kind : FramingHolds (judged f) → HeaderHolds (judgedBytes f) → SenderHolds (judgedBytes f) →
      ¬ KindHolds (judgedBytes f) → Verdict f (.bad .kind)
  | length : FramingHolds (judged f) → HeaderHolds (judgedBytes f) → SenderHolds (judgedBytes f) →
      KindHolds (judgedBytes f) → ¬ LengthHolds (judgedBytes f) → Verdict f (.bad .length)
  | payloadCrc : FramingHolds (judged f) → HeaderHolds (judgedBytes f) → SenderHolds (judgedBytes f) →
      KindHolds (judgedBytes f) → LengthHolds (judgedBytes f) → ¬ CrcHolds (judgedBytes f) →
      Verdict f (.bad .payloadCrc)
  | good : FramingHolds (judged f) → HeaderHolds (judgedBytes f) → SenderHolds (judgedBytes f) →
      KindHolds (judgedBytes f) → LengthHolds (judgedBytes f) → CrcHolds (judgedBytes f) →
      Verdict f (.good (u8At (judgedBytes f) 1) (readPayload (judgedBytes f)))

/-- The checks give the verdict of the first that fails. -/
theorem checkFrame_verdict (f : RxFrame) : Verdict f (checkFrame false f) := by
  have sender : (!(1 ≤ u8At (judgedBytes f) 1 && u8At (judgedBytes f) 1 ≤ Config.stations)) = true ↔
      ¬ SenderHolds (judgedBytes f) := by
    simp only [Bool.not_eq_true', ← Bool.not_eq_true, Bool.and_eq_true, decide_eq_true_eq]
    rfl
  have kind : (!(u8At (judgedBytes f) 0 == 0x11 || u8At (judgedBytes f) 0 == 0x22 || u8At (judgedBytes f) 0 == 0x33)) = true ↔
      ¬ KindHolds (judgedBytes f) := by
    simp only [Bool.not_eq_true', ← Bool.not_eq_true, Bool.or_eq_true, beq_iff_eq, KindHolds, or_assoc]
  have header : (!headerHolds (judgedBytes f)) = true ↔ ¬ HeaderHolds (judgedBytes f) := by
    rw [← headerHolds_iff]; simp
  change Verdict f (if framingFails false (judged f) then _ else if !headerHolds (judgedBytes f) then _
    else if !(1 ≤ u8At (judgedBytes f) 1 && u8At (judgedBytes f) 1 ≤ Config.stations) then _
    else if !(u8At (judgedBytes f) 0 == 0x11 || u8At (judgedBytes f) 0 == 0x22 || u8At (judgedBytes f) 0 == 0x33) then _
    else if u8At (judgedBytes f) 2 ≠ payloadLength (readPayload (judgedBytes f)) then _
    else if be16 (crc16 ((judgedBytes f).take ((judgedBytes f).length - 2))).toNat
      ≠ (judgedBytes f).drop ((judgedBytes f).length - 2) then _ else _)
  split
  case isTrue h => exact .framing ((framingFails_iff _).1 h)
  case isFalse h =>
    have h1 : FramingHolds (judged f) := not_not.1 (mt (framingFails_iff _).2 h)
    split
    case isTrue h => exact .headerCheck h1 (header.1 h)
    case isFalse h =>
      have h2 := not_not.1 (mt header.2 h)
      split
      case isTrue h => exact .sender h1 h2 (sender.1 h)
      case isFalse h =>
        have h3 := not_not.1 (mt sender.2 h)
        split
        case isTrue h => exact .kind h1 h2 h3 (kind.1 h)
        case isFalse h =>
          have h4 := not_not.1 (mt kind.2 h)
          have length := payloadLength_readPayload h4
          split
          case isTrue h => exact .length h1 h2 h3 h4 (mt length.2 h)
          case isFalse h =>
            have h5 := length.1 (not_not.1 h)
            split
            case isTrue h => exact .payloadCrc h1 h2 h3 h4 h5 h
            case isFalse h => exact .good h1 h2 h3 h4 h5 (not_not.1 h)

/-- A good frame names its sender, one of the 24 stations, and its kind (R29). -/
theorem checkFrame_good {f : RxFrame} {n : Nat} {g : Frame} (h : checkFrame false f = .good n g) :
    1 ≤ n ∧ n ≤ 24 ∧ n = u8At (judgedBytes f) 1 ∧ g = readPayload (judgedBytes f) ∧ KindHolds (judgedBytes f) := by
  have verdict := checkFrame_verdict f
  rw [h] at verdict
  cases verdict with
  | good _ _ sender kind _ _ => exact ⟨sender.1, sender.2, rfl, rfl, kind⟩

/-- Settles O30: each verdict decides all the clauses. -/
theorem receptionAppliesTheSixChecksInOrder : Obligations.ReceptionAppliesTheSixChecksInOrder := by
  intro f kept head l d header framing sender kind length crc v
  have part : l = judged f := by
    by_cases h : HeaderHolds head
    · exact (if_pos h).trans (framePart_of_header (l := rxBytes f) h).symm
    · exact (if_neg h).trans (framePart_of_noHeader (l := rxBytes f) h).symm
  have bytes : d = judgedBytes f := congrArg (List.map _) part
  have framing_iff : framing ↔ FramingHolds (judged f) := part ▸ Iff.rfl
  have header_iff : header ↔ HeaderHolds (judgedBytes f) := bytes ▸ Iff.rfl
  have sender_iff : sender ↔ SenderHolds (judgedBytes f) := bytes ▸ Iff.rfl
  have kind_iff : kind ↔ KindHolds (judgedBytes f) := bytes ▸ Iff.rfl
  have length_iff : length ↔ LengthHolds (judgedBytes f) := bytes ▸ Iff.rfl
  have crc_iff : crc ↔ CrcHolds (judgedBytes f) := bytes ▸ Iff.rfl
  have last : ∀ n g, v = .good n g → n = u8At d 1 ∧ kindCode g = u8At d 0 := by
    intro n g good
    obtain ⟨-, -, rfl, rfl, isKind⟩ := checkFrame_good good
    rw [bytes]
    exact ⟨rfl, kindCode_readPayload isKind⟩
  have cut := checkFrame_cut f
  have verdict : Verdict f v := checkFrame_verdict f
  rw [framing_iff, header_iff, sender_iff, kind_iff, length_iff, crc_iff]
  generalize v = r at verdict last
  cases verdict <;> simp_all

end Sys2Proof.Machine
end

section
/-! PROOFS. The layouts of the frames, read back, and contention bit by bit (sections 2.1 to 2.4 and 11.3). -/
namespace Sys2Proof.Machine

/-! ## Figures of the layouts (R189) -/

theorem toNat_byte {n : Nat} (h : n < 256) : (BitVec.ofNat 8 n).toNat = n := by
  rw [BitVec.toNat_ofNat]; exact Nat.mod_eq_of_lt h

/-- A 16-bit figure from its two bytes. -/
theorem toNat_be16 {n : Nat} (h : n < 65536) :
    (BitVec.ofNat 8 (n / 256)).toNat * 256 + (BitVec.ofNat 8 n).toNat = n := by
  simp only [BitVec.toNat_ofNat]; omega

/-- A signed figure from its two's complement. -/
theorem signed_be16 {z : Int} (low : -32768 ≤ z) (high : z ≤ 32767) :
    (if (z % 65536).toNat < 32768 then ((z % 65536).toNat : Int) else ((z % 65536).toNat : Int) - 65536) = z := by
  split <;> omega

/-- The six flags are read from the byte in which they are sent. -/
theorem readFlags_flagsByte (f : ReportFlags) : readFlags (flagsByte f) = f := by
  rcases f with ⟨restarted, degraded, isolated, dry, leaving, blind⟩
  cases restarted <;> cases degraded <;> cases isolated <;> cases dry <;> cases leaving <;> cases blind <;> rfl

/-- The figures of a frame fit their fields. -/
def Frame.Fits : Frame → Prop
  | .stage p => p.number < 256 ∧ (-32768 ≤ p.polder ∧ p.polder ≤ 32767) ∧ (-32768 ≤ p.river ∧ p.river ≤ 32767)
      ∧ ∀ x ∈ [p.urgency, p.demand, p.cav, p.eAuto, p.eHand, p.runPower, p.instPower, p.share, p.digest], x < 65536
  | .start p => p.channel < 256 ∧ p.urgency < 65536 ∧ p.power < 65536 ∧ p.number < 256
  | .quit p => p.reason < 256 ∧ p.number < 256

/-- The bytes of a header. -/
def headerBytes (n : Nat) (g : Frame) : List Byte :=
  [BitVec.ofNat 8 (kindCode g), BitVec.ofNat 8 n, BitVec.ofNat 8 (payloadLength g),
    BitVec.ofNat 8 (headerCheck (kindCode g) n (payloadLength g))]

theorem frameBytes_eq (n : Nat) (g : Frame) :
    frameBytes n g = headerBytes n g ++ (payloadBytes g ++ be16 (crc16 (frameBody n g)).toNat) := rfl

theorem payloadBytes_length (g : Frame) : (payloadBytes g).length = payloadLength g := by
  cases g <;> rfl

theorem frameBody_length (n : Nat) (g : Frame) : (frameBody n g).length = 4 + payloadLength g := by
  rw [frameBody, List.length_append, payloadBytes_length]; rfl

theorem frameBytes_length (n : Nat) (g : Frame) : (frameBytes n g).length = 6 + payloadLength g := by
  rw [frameBytes, List.length_append, frameBody_length]
  simp only [be16, List.length_cons, List.length_nil]
  omega

/-- The four header bytes as they are read. -/
theorem frameBytes_header (n : Nat) (g : Frame) (h : n ≤ 24) :
    u8At (frameBytes n g) 0 = kindCode g ∧ u8At (frameBytes n g) 1 = n ∧ u8At (frameBytes n g) 2 = payloadLength g
      ∧ u8At (frameBytes n g) 3 = headerCheck (kindCode g) n (payloadLength g) := by
  have kind : kindCode g < 256 := by cases g <;> simp [kindCode]
  have length : payloadLength g < 256 := by cases g <;> simp [payloadLength]
  have check : headerCheck (kindCode g) n (payloadLength g) < 256 := by unfold headerCheck; omega
  exact ⟨toNat_byte kind, toNat_byte (by omega), toNat_byte length, toNat_byte check⟩

/-- A STAGE is read as it was sent. -/
theorem readStage_frameBytes (n : Nat) (p : StagePayload) (fits : (Frame.stage p).Fits) :
    readStage (frameBytes n (.stage p)) = p := by
  obtain ⟨number, ⟨low, high⟩, ⟨low', high'⟩, figures⟩ := fits
  simp only [List.forall_mem_cons, List.not_mem_nil, false_imp_iff, implies_true, and_true] at figures
  obtain ⟨urgency, demand, cav, eAuto, eHand, runPower, instPower, share, digest⟩ := figures
  have level : ∀ z : Int, (z % 65536).toNat < 65536 := fun z => by omega
  rw [frameBytes_eq]
  generalize be16 (crc16 (frameBody n (.stage p))).toNat = crc
  simp only [readStage, payloadBytes, headerBytes, be16s, be16, s16At, u16At, u8At, List.cons_append, List.nil_append,
    List.getD_cons_succ, List.getD_cons_zero, toNat_byte number, toNat_be16 urgency, toNat_be16 demand, toNat_be16 cav,
    toNat_be16 eAuto, toNat_be16 eHand, toNat_be16 runPower, toNat_be16 instPower, toNat_be16 share, toNat_be16 digest,
    toNat_be16 (level p.polder), toNat_be16 (level p.river), signed_be16 low high, signed_be16 low' high',
    readFlags_flagsByte]

/-- A frame of any kind is read as it was sent. -/
theorem readPayload_frameBytes (n : Nat) (g : Frame) (h : n ≤ 24) (fits : g.Fits) :
    readPayload (frameBytes n g) = g := by
  have kind := (frameBytes_header n g h).1
  cases g with
  | stage p => simp only [readPayload, kind, kindCode, if_true, readStage_frameBytes n p fits]
  | start p =>
    obtain ⟨channel, urgency, power, number⟩ := fits
    have read : readStart (frameBytes n (.start p)) = p := by
      rw [frameBytes_eq]
      simp only [readStart, payloadBytes, headerBytes, be16, u16At, u8At, List.cons_append, List.nil_append,
        List.getD_cons_succ, List.getD_cons_zero, toNat_byte channel, toNat_be16 urgency, toNat_be16 power, toNat_byte number]
    simp [readPayload, kind, kindCode, read]
  | quit p =>
    obtain ⟨reason, number⟩ := fits
    have read : readQuit (frameBytes n (.quit p)) = p := by
      rw [frameBytes_eq]
      simp only [readQuit, payloadBytes, headerBytes, u8At, List.cons_append, List.nil_append, List.getD_cons_succ,
        List.getD_cons_zero, toNat_byte reason, toNat_byte number]
    simp [readPayload, kind, kindCode, read]

/-! ## A frame received as it was sent (O31) -/

/-- What arrives of a frame that fits the receiver's 261 bytes. -/
theorem rxBytes_received (l : List Byte) (one : l ≠ []) (short : l.length ≤ 261) :
    rxBytes (received l) = l.map fun x => ⟨x, true⟩ := by
  cases l with
  | nil => exact absurd rfl one
  | cons b r =>
    have whole : (⟨b, true⟩ :: r.map fun x => (⟨x, true⟩ : RxByte)).length ≤ 261 := by simpa using short
    exact List.take_of_length_le whole

/-- A frame of which all checks hold is good (R29). -/
theorem checkFrame_of_holds {f : RxFrame} (framing : FramingHolds (judged f)) (header : HeaderHolds (judgedBytes f))
    (sender : SenderHolds (judgedBytes f)) (kind : KindHolds (judgedBytes f)) (length : LengthHolds (judgedBytes f))
    (crc : CrcHolds (judgedBytes f)) : checkFrame false f = .good (u8At (judgedBytes f) 1) (readPayload (judgedBytes f)) := by
  have verdict := checkFrame_verdict f
  generalize checkFrame false f = r at verdict
  cases verdict with
  | framing fails => exact absurd framing fails
  | headerCheck _ fails => exact absurd header fails
  | sender _ _ fails => exact absurd sender fails
  | kind _ _ _ fails => exact absurd kind fails
  | length _ _ _ _ fails => exact absurd length fails
  | payloadCrc _ _ _ _ _ fails => exact absurd crc fails
  | good => rfl

/-- A frame received as it was sent is judged by its own bytes. -/
theorem judged_received (l : List Byte) (header : HeaderHolds l) (whole : l.length = 6 + u8At l 2) (short : l.length ≤ 261) :
    judged (received l) = l.map (fun x => ⟨x, true⟩) ∧ judgedBytes (received l) = l := by
  have arrived := rxBytes_received l (by rintro rfl; simp at whole; omega) short
  have data : (rxBytes (received l)).map (·.data) = l := by
    rw [arrived, List.map_map]; exact List.map_id _
  have all : judged (received l) = l.map (fun x => ⟨x, true⟩) := by
    unfold judged
    rw [framePart_of_header (by rw [data]; exact header), data, ← whole, arrived]
    exact List.take_of_length_le (by rw [List.length_map])
  refine ⟨all, ?_⟩
  rw [judgedBytes, all, List.map_map]
  exact List.map_id _

/-- A frame received without error has no framing error. -/
theorem framing_received (l : List Byte) (header : HeaderHolds l) (whole : l.length = 6 + u8At l 2) (short : l.length ≤ 261) :
    FramingHolds (judged (received l)) := by
  obtain ⟨all, bytes⟩ := judged_received l header whole short
  have count : (judged (received l)).length = l.length := by rw [all, List.length_map]
  change (judged (received l)).map (·.data) = l at bytes
  refine ⟨?_, ?_, fun _ => ?_⟩
  · rw [all]; simp
  · rw [count]; exact header.1
  · rw [bytes, count, whole]

/-- The check at the end of a frame is that of the bytes before it (R189). -/
theorem crcHolds_frameBytes (n : Nat) (g : Frame) : CrcHolds (frameBytes n g) := by
  have body : (frameBytes n g).length - 2 = (frameBody n g).length := by
    rw [frameBytes_length, frameBody_length]; omega
  unfold CrcHolds
  rw [body, frameBytes, List.take_left, List.drop_left]

/-- Settles O31: the frame passes each check, and header and payload are read back. -/
theorem everyFrameIsReadAsItWasSent : Obligations.EveryFrameIsReadAsItWasSent := by
  intro n g low high fits
  have fits : g.Fits := by cases g <;> exact fits
  obtain ⟨kindByte, senderByte, lengthByte, checkByte⟩ := frameBytes_header n g high
  have payload := readPayload_frameBytes n g high fits
  have crc := crcHolds_frameBytes n g
  have total := frameBytes_length n g
  have longest : payloadLength g ≤ 24 := by cases g <;> simp [payloadLength]
  have header : HeaderHolds (frameBytes n g) := by
    refine ⟨by omega, ?_⟩
    rw [checkByte, kindByte, senderByte, lengthByte]; rfl
  have kind : KindHolds (frameBytes n g) := by
    unfold KindHolds; rw [kindByte]; cases g <;> simp [kindCode]
  generalize frameBytes n g = l at *
  have whole : l.length = 6 + u8At l 2 := by rw [lengthByte, total]
  have framing := framing_received l header whole (by omega)
  have bytes := (judged_received l header whole (by omega)).2
  have good := checkFrame_of_holds framing (by rwa [bytes]) (by rw [bytes]; exact ⟨by omega, by omega⟩) (by rwa [bytes])
    (by rw [bytes]; exact (payloadLength_readPayload kind).1 (by rw [lengthByte, payload])) (by rwa [bytes])
  rw [good, bytes, senderByte, payload]

/-! ## Contention (O32) -/

/-- Of two stations that send the same bits up to a first that differs, the recessive one loses (R22). -/
theorem losesTo_firstDifference (same own other : List Bool) :
    losesTo (same ++ true :: own) (same ++ false :: other) = true ∧
      losesTo (same ++ false :: other) (same ++ true :: own) = false := by
  induction same with
  | nil => exact ⟨rfl, rfl⟩
  | cons b same ih =>
    have line : lineBit [b, b] = b := by cases b <;> rfl
    simp only [List.cons_append, losesTo, line, ne_eq, not_true_eq_false, if_false]
    exact ih

/-- The bits of a frame, from those of its kind and of its sender on (R19, R20). -/
theorem frameBits_eq (n : Nat) (g : Frame) :
    ∃ rest, frameBits n g = byteBits (BitVec.ofNat 8 (kindCode g)) ++ (byteBits (BitVec.ofNat 8 n) ++ rest) :=
  ⟨_, rfl⟩

/-- The bits of a station number, up to one of them, that bit, and the rest. -/
theorem byteBits_split (n i : Nat) (h : i < 8) :
    ∃ rest, byteBits (BitVec.ofNat 8 n) = false :: ((List.range i).map fun j => n.testBit j) ++ n.testBit i :: rest := by
  have bit : ∀ j, j < 8 → (BitVec.ofNat 8 n).getLsbD j = n.testBit j := fun j hj => by
    rw [BitVec.getLsbD_ofNat, decide_eq_true hj, Bool.true_and]
  have bits : [0, 1, 2, 3, 4, 5, 6, 7].map (fun j => (BitVec.ofNat 8 n).getLsbD j) = (List.range 8).map fun j => n.testBit j :=
    List.map_congr_left fun j hj => bit j (by simp at hj; omega)
  have split : List.range 8 = List.range i ++ i :: (List.range' (i + 1) (7 - i)) := by
    interval_cases i <;> rfl
  refine ⟨((List.range' (i + 1) (7 - i)).map fun j => n.testBit j) ++ [true], ?_⟩
  rw [byteBits, bits, split]
  simp

/-- A frame whose kind is sent with the first differing bit recessive loses to the other kind. -/
theorem losesTo_of_kinds (a b : Nat) (f g : Frame) (same own other : List Bool)
    (loser : byteBits (BitVec.ofNat 8 (kindCode f)) = same ++ true :: own)
    (winner : byteBits (BitVec.ofNat 8 (kindCode g)) = same ++ false :: other) :
    losesTo (frameBits a f) (frameBits b g) = true ∧ losesTo (frameBits b g) (frameBits a f) = false := by
  obtain ⟨x, hx⟩ := frameBits_eq a f
  obtain ⟨y, hy⟩ := frameBits_eq b g
  rw [hx, hy, loser, winner]
  simpa only [List.append_assoc, List.cons_append] using losesTo_firstDifference same _ _

/-- Settles O32: the first bit that differs decides, in the kind byte or in the station number. -/
theorem contentionPrefersStartThenStageThenTheLowerBit : Obligations.ContentionPrefersStartThenStageThenTheLowerBit := by
  intro a b f g _ high _ _
  refine ⟨fun start other => ?_, fun stage quit => ?_, fun same i one zero below => ?_⟩
  · rcases other with other | other
    · exact losesTo_of_kinds a b f g [false] _ _ (by rw [other]; rfl) (by rw [start]; rfl)
    · exact losesTo_of_kinds a b f g [false] _ _ (by rw [other]; rfl) (by rw [start]; rfl)
  · exact losesTo_of_kinds a b f g [false, true] _ _ (by rw [quit]; rfl) (by rw [stage]; rfl)
  · have place : i < 8 := by
      by_contra far
      have : a.testBit i = false := Nat.testBit_lt_two_pow (lt_of_lt_of_le (by omega : a < 2 ^ 8)
        (Nat.pow_le_pow_right (by omega) (by omega)))
      simp [this] at one
    obtain ⟨x, hx⟩ := frameBits_eq a f
    obtain ⟨y, hy⟩ := frameBits_eq b g
    obtain ⟨x', hx'⟩ := byteBits_split a i place
    obtain ⟨y', hy'⟩ := byteBits_split b i place
    have same_below : (List.range i).map (fun j => a.testBit j) = (List.range i).map fun j => b.testBit j :=
      List.map_congr_left fun j hj => below j (List.mem_range.1 hj)
    rw [hx, hy, hx', hy', same, same_below, one, zero]
    have decided := losesTo_firstDifference (byteBits (BitVec.ofNat 8 (kindCode g)) ++
      (false :: (List.range i).map fun j => b.testBit j)) (x' ++ x) (y' ++ y)
    simpa only [List.append_assoc, List.cons_append] using decided

end Sys2Proof.Machine
end

section
/-! PROOFS. The end of a received frame: the good and the bad frame, the records, the own number and the entry to LINE_FAULT
(sections 2.2, 2.4, 2.5, 2.7 and 3.5). -/
namespace Sys2Proof.Machine

/-! ## Which records a report touches (R64) -/

/-- The view keeps its timer, and every record but that of station n. -/
structure RecordsKept (n : Nat) (s t : State) : Prop where
  timer : t.view.ageingTimer = s.view.ageingTimer
  record : ∀ m, 1 ≤ m → m ≠ n → t.record m = s.record m

theorem RecordsKept.of_view {n : Nat} {s t : State} (h : t.view = s.view) : RecordsKept n s t :=
  ⟨by rw [h], fun m _ _ => record_congr _ _ m (by rw [h])⟩

theorem RecordsKept.trans {n : Nat} {s t u : State} (h : RecordsKept n s t) (h' : RecordsKept n t u) : RecordsKept n s u :=
  ⟨h'.timer.trans h.timer, fun m one other => (h'.record m one other).trans (h.record m one other)⟩

theorem setRecord_kept (s : State) (n : Nat) (r : PeerRecord) (one : 1 ≤ n) : RecordsKept n s (s.setRecord n r) := by
  refine ⟨rfl, fun m first other => ?_⟩
  rw [State.setRecord_record _ _ _ _ one first, if_neg fun h => other h.1]

/-- A composed report stands in the own record. -/
theorem composeStage_kept (s : State) (one : 1 ≤ s.own) : RecordsKept s.own s (composeStage s) := by
  have own := setRecord_kept s s.own { s.record s.own with report := some (stagePayload s) } one
  exact own.trans (.of_view (by unfold composeStage offerStage; dsimp only; split <;> rfl))

theorem promptCause_kept (s : State) (one : 1 ≤ s.own) : RecordsKept s.own s (promptCause s) := by
  unfold promptCause
  split
  · split
    · exact composeStage_kept s one
    · exact .of_view rfl
  · exact .of_view rfl

theorem promptCauses_kept (k : Nat) (s : State) (one : 1 ≤ s.own) : RecordsKept s.own s (promptCauses k s) := by
  induction k generalizing s with
  | zero => exact .of_view rfl
  | succ k ih =>
    have own : (promptCause s).own = s.own := by simp [State.own, State.cfg]
    exact (promptCause_kept s one).trans (own ▸ ih (promptCause s) (own.symm ▸ one))

/-- Settling reports in the own record alone. -/
theorem settle_kept (s0 : State) (k : Nat) (s : State) (one : 1 ≤ s.own) : RecordsKept s.own s (settle s0 k s) := by
  have formed : ∀ k, ∀ u : State, u.ctl = s.ctl → u.view = s.view → RecordsKept s.own s (promptCauses k u) := by
    intro k u ctl view
    have own : u.own = s.own := by simp only [State.own, State.cfg, ctl]
    exact (RecordsKept.of_view view).trans (own ▸ promptCauses_kept k u (own.symm ▸ one))
  have tested : ∀ k, ∀ u : State, u.ctl = s.ctl → u.view = s.view → RecordsKept s.own s (quitTest (promptCauses k u)) :=
    fun k u ctl view => (formed k u ctl view).trans (.of_view (by simp))
  unfold settle
  dsimp only
  generalize due : (if speedTargetDue s0 (reform s) then formNt (reform s) else reform s) = u
  have ctl : u.ctl = s.ctl := by rw [← due]; split <;> simp
  have view : u.view = s.view := by rw [← due]; split <;> simp
  split
  · exact tested _ _ ctl view
  · exact formed _ _ ctl view

/-- The reports on discarded frames touch the own record alone. -/
theorem leaveActive_kept (s : State) (x : PortState) (one : 1 ≤ s.own) : RecordsKept s.own s (leaveActive s x) := by
  have discarded : ∀ (u : State) (onLine : Bool) (f : Option Frame), u.ctl = s.ctl →
      RecordsKept s.own u (reportDiscardedIf u onLine f) := by
    intro u onLine f ctl
    have own : u.own = s.own := by simp only [State.own, State.cfg, ctl]
    rcases f with _ | (p | p | p)
    · exact .of_view rfl
    · cases onLine
      · exact .of_view rfl
      · simp only [reportDiscardedIf, reportDiscarded, stageLost, if_true]
        split
        · exact own ▸ composeStage_kept u (own.symm ▸ one)
        · exact .of_view rfl
    · exact .of_view (by simp [reportDiscardedIf, reportDiscarded])
    · exact .of_view (by simp only [reportDiscardedIf, reportDiscarded, quitEnded, enterLeft]; split <;> rfl)
  rw [leaveActive_reports]
  have base : RecordsKept s.own s (emptied s x) := .of_view rfl
  exact ((base.trans (discarded _ _ _ rfl)).trans (discarded _ _ _ (by simp [emptied]))).trans
    (discarded _ _ _ (by simp [emptied]))

/-- Without a frame on the line no report is composed at a departure. -/
theorem leaveActive_view (s : State) (x : PortState) (idle : s.port.tx = none) : (leaveActive s x).view = s.view := by
  have queued : ∀ (u : State) (f : Option Frame), (reportDiscardedIf u false f).view = u.view := by
    intro u f
    rcases f with _ | (p | p | p)
    · rfl
    · rfl
    · simp [reportDiscardedIf, reportDiscarded]
    · simp only [reportDiscardedIf, reportDiscarded, quitEnded, enterLeft]; split <;> rfl
  rw [leaveActive_reports, queued, queued, idle]
  rfl

/-! ## The end of a received frame (R29 to R32) -/

/-- The port after a good frame of a station. -/
def Port.heard (p : Port) (n : Nat) : Port :=
  { p with good := min (p.good + 1) 65535, lastSender := some n, lossCount := 0, idle := some 0 }

/-- A good frame: the own number mutes, any other is delivered (R30, R32). -/
theorem receiveFrame_good {s : State} {f : RxFrame} {n : Nat} {g : Frame} (receives : s.receives = true)
    (good : checkFrame false f = .good n g) :
    receiveFrame s f = if n = s.own then enterMute (s.setPort (s.port.heard n))
      else lossesEnd (decide (16 ≤ s.port.lossCount)) (deliver (s.setPort (s.port.heard n)) n g) := by
  unfold receiveFrame
  rw [if_pos receives, good]
  rfl

/-- A bad frame is counted (R31). -/
theorem receiveFrame_bad {s : State} {f : RxFrame} {e : ErrorKind} (receives : s.receives = true)
    (bad : checkFrame false f = .bad e) :
    receiveFrame s f = lossesEnd (decide (16 ≤ s.port.lossCount)) (countBad (s.setPort { s.port with idle := some 0 }) e f) := by
  unfold receiveFrame
  rw [if_pos receives, bad]
  rfl

/-- Before the sixteenth loss no entry is pending (R23). -/
theorem lossesEnd_few {s : State} {losses : Nat} (few : losses < 16) : lossesEnd (decide (16 ≤ losses)) s = s := by
  simp [lossesEnd, few]

/-- A good frame of a peer. -/
theorem receiveFrame_peer {s : State} {f : RxFrame} {n : Nat} {g : Frame} (receives : s.receives = true)
    (good : checkFrame false f = .good n g) (peer : n ≠ s.own) (few : s.port.lossCount < 16) :
    receiveFrame s f = deliver (s.setPort (s.port.heard n)) n g := by
  rw [receiveFrame_good receives good, if_neg peer, lossesEnd_few few]

theorem normalLevel_eq (z : Int) : normalLevel z = if -9999 ≤ z ∧ z ≤ 9999 then z else -32768 := rfl

/-- A replaced record: what the delivery of a frame that ends there leaves. -/
theorem setRecord_delivers (s : State) (p : Port) (n : Nat) (r : PeerRecord) (one : 1 ≤ n) (last : n ≤ 24)
    (whole : s.view.records.length = 24) :
    let t := (s.setPort p).setRecord n r
    t = { s with port := p, view := t.view } ∧ t.view.ageingTimer = s.view.ageingTimer ∧
      (∀ m, 1 ≤ m → m ≠ n → t.record m = s.record m) ∧ t.record n = r := by
  have kept := setRecord_kept (s.setPort p) n r one
  exact ⟨rfl, kept.timer, kept.record, (setRecord_get (s.setPort p) n n r whole ⟨one, last⟩ one).trans (if_pos rfl)⟩

/-- Settles O26: the record is that of `acceptStage`. -/
theorem aGoodStageRefreshesTheSendersRecord : Obligations.AGoodStageRefreshesTheSendersRecord := by
  intro f n p s receives good peer few whole level
  obtain ⟨one, last, -⟩ := checkFrame_good good
  obtain ⟨frame, timer, others, own⟩ := setRecord_delivers s (s.port.heard n) n
    (acceptStage s.cfg.digest p (s.record n)) one last whole
  refine ⟨_, congrArg Host.Outcome.next (receiveFrame_peer receives good peer few), frame, timer, others, own.trans ?_⟩
  have mismatch : (p.digest != s.cfg.digest) = decide (p.digest ≠ s.cfg.digest) := by
    rw [bne, Bool.eq_iff_iff]; simp
  rw [acceptStage, mismatch]
  rfl

/-- Settles O27: the record is that of `acceptQuit`. -/
theorem aGoodQuitSetsTheSendersRecordToQuit : Obligations.AGoodQuitSetsTheSendersRecordToQuit := by
  intro f n p s receives good peer few whole
  obtain ⟨one, last, -⟩ := checkFrame_good good
  exact ⟨_, congrArg Host.Outcome.next (receiveFrame_peer receives good peer few),
    setRecord_delivers s (s.port.heard n) n (acceptQuit p (s.record n)) one last whole⟩

/-! ## A START of a peer, held and ranked (O28) -/

/-- Without an own notice nothing is ranked. -/
theorem rankStart_none {s : State} (n : Nat) (none : s.arb.notice = none) : rankStart s n = s := by
  simp only [rankStart, none]

/-- A pending start that does not outrank the own notice yields to it (R126). -/
theorem rankStart_yields {s : State} {n : Nat} {o : OwnNotice} {q : PendingStart} (notice : s.arb.notice = some o)
    (pending : (s.record n).pending = some q) (lower : outranks q.urgency n o.urgency s.own = false) :
    rankStart s n = s.setRecord n { s.record n with pending := some { q with yielded := true } } := by
  simp [rankStart, notice, pending, lower]

/-- A pending start that outranks the own notice withdraws it (R125). -/
theorem rankStart_withdraws {s : State} {n : Nat} {o : OwnNotice} {q : PendingStart} (notice : s.arb.notice = some o)
    (pending : (s.record n).pending = some q) (higher : outranks q.urgency n o.urgency s.own = true) :
    rankStart s n = settle s 0 (withdrawNotice s) := by
  simp [rankStart, notice, pending, higher]

theorem outranks_iff (urgency station urgency' station' : Nat) :
    outranks urgency station urgency' station' = true ↔ urgency' < urgency ∨ (urgency = urgency' ∧ station < station') := by
  simp [outranks]

theorem withdrawNotice_arb (s : State) : (withdrawNotice s).arb = (dropNotice s).arb := by
  unfold withdrawNotice dropNotice
  cases s.arb.notice <;> simp

/-- A queued START leaves the queue with its notice (R128). -/
theorem withdrawNotice_start {s : State} {n : OwnNotice} (notice : s.arb.notice = some n) (queued : n.phase = .queued) :
    (withdrawNotice s).port.queue.start = none := by
  simp [withdrawNotice, dropNotice, withdrawStart, notice, queued]

/-- A composed report leaves a queued START. -/
theorem composeStage_start (s : State) : (composeStage s).port.queue.start = s.port.queue.start := by
  unfold composeStage offerStage; dsimp only; split <;> rfl

theorem promptCause_start (s : State) : (promptCause s).port.queue.start = s.port.queue.start := by
  unfold promptCause
  split
  · split
    · exact composeStage_start s
    · rfl
  · rfl

theorem promptCauses_start (k : Nat) (s : State) : (promptCauses k s).port.queue.start = s.port.queue.start := by
  induction k generalizing s with
  | zero => rfl
  | succ k ih => rw [promptCauses, ih, promptCause_start]

/-- No settling queues a START. -/
theorem settle_start (s0 : State) (k : Nat) (s : State) (empty : s.port.queue.start = none) :
    (settle s0 k s).port.queue.start = none := by
  have tested : ∀ u : State, u.port.queue.start = none → (quitTest u).port.queue.start = none := by
    intro u empty
    unfold quitTest offerQuit quitEnded enterLeft
    split
    · dsimp only
      split
      · simp [empty]
      · split <;> simp [empty]
    · exact empty
  unfold settle
  dsimp only
  generalize due : (if speedTargetDue s0 (reform s) then formNt (reform s) else reform s) = u
  have port : u.port = s.port := by rw [← due]; split <;> simp
  split
  · exact tested _ (by rw [promptCauses_start, port, empty])
  · rw [promptCauses_start, port, empty]

/-- What an outranked notice leaves when it is withdrawn (R125, R128). -/
theorem settle_withdrawNotice (s : State) {o : OwnNotice} (notice : s.arb.notice = some o) :
    let t := settle s 0 (withdrawNotice s)
    t.arb.notice = none ∧ t.arb.holdOff = none ∧ t.arb.counter = s.arb.counter ∧
      (s.isIn o.channel .notice = true → (t.chan o.channel).Off .idle) ∧ (∀ k, k ≠ o.channel → t.chan k = s.chan k) ∧
      t.disp.rotation = s.disp.rotation ∧ (o.phase = .queued → t.port.queue.start = none) := by
  obtain ⟨gone, counter, holdOff⟩ := dropNotice_arb s
  have arb := settle_arb s 0 (withdrawNotice s) (by rw [withdrawNotice_arb, gone])
  rw [withdrawNotice_arb] at arb
  have chan : ∀ k, (settle s 0 (withdrawNotice s)).chan k = (withdrawNotice s).chan k := fun k => by simp [State.chan]
  refine ⟨by rw [arb, gone], by rw [arb]; exact holdOff (.inl (by rw [notice]; rfl)), by rw [arb, counter], fun inNotice => ?_,
    fun k other => ?_, by rw [(settle_disp_kept _ _ _).1, (withdrawNotice_disp s).1], fun queued =>
      settle_start _ _ _ (withdrawNotice_start notice queued)⟩
  · rw [chan, withdrawNotice_chan s o notice, if_pos ⟨rfl, inNotice⟩]
    exact ⟨rfl, rfl, rfl, rfl⟩
  · rw [chan, withdrawNotice_chan s o notice, if_neg fun h => other h.1]

/-- Settling a withdrawal reports in the own record alone. -/
theorem settle_withdrawNotice_kept (s : State) (one : 1 ≤ s.own) : RecordsKept s.own s (settle s 0 (withdrawNotice s)) := by
  have withdrawn : RecordsKept s.own s (withdrawNotice s) := .of_view (by simp)
  have own : (withdrawNotice s).own = s.own := by simp [State.own, State.cfg]
  exact withdrawn.trans (own ▸ settle_kept s 0 (withdrawNotice s) (own.symm ▸ one))

/-- Ranking touches the record of the sender and the own one alone. -/
theorem rankStart_kept (s : State) {n : Nat} (one : 1 ≤ n) (ownOne : 1 ≤ s.own) :
    (rankStart s n).view.ageingTimer = s.view.ageingTimer ∧
      ∀ m, 1 ≤ m → m ≠ n → m ≠ s.own → (rankStart s n).record m = s.record m := by
  unfold rankStart
  split
  case h_2 => exact ⟨rfl, fun _ _ _ _ => rfl⟩
  case h_1 o q _ _ =>
    split
    case isTrue =>
      have settled := settle_withdrawNotice_kept s ownOne
      exact ⟨settled.timer, fun m first _ notOwn => settled.record m first notOwn⟩
    case isFalse =>
      have yielded := setRecord_kept s n { s.record n with pending := some { q with yielded := true } } one
      exact ⟨yielded.timer, fun m first other _ => yielded.record m first other⟩

/-- Settles O28: the three cases of `rankStart`, on the state that holds the START. -/
theorem aGoodStartIsHeldAndRanked : Obligations.AGoodStartIsHeldAndRanked := by
  intro f n p s receives good peer ownOne few whole u held port
  obtain ⟨one, last, -⟩ := checkFrame_good good
  obtain ⟨frame, timer, others, own⟩ := setRecord_delivers s port n
    { s.record n with pending := some (held false) } one last whole
  have run : exec (.startNoticeReceived f) s = .next (deliver (s.setPort port) n (.start p)) :=
    congrArg Host.Outcome.next (receiveFrame_peer receives good peer few)
  obtain ⟨ctl, acq, allow, sup, maint, -⟩ := deliver_frame (s.setPort port) n (.start p)
  generalize holding : (s.setPort port).setRecord n { s.record n with pending := some (held false) } = r at *
  have delivered : deliver (s.setPort port) n (.start p) = rankStart r n := by rw [← holding]; rfl
  have arb : r.arb = s.arb := by rw [← holding]; rfl
  have station : r.own = s.own := by rw [← holding]; rfl
  have pending : (r.record n).pending = some (held false) := by rw [own]
  have length : r.view.records.length = 24 := by rw [← holding]; simpa [State.setRecord] using whole
  obtain ⟨rankTimer, rankOthers⟩ := rankStart_kept r one (station.symm ▸ ownOne)
  have rank := outranks_iff u n
  rw [delivered] at run ctl acq allow sup maint
  refine ⟨_, run, fun notice => ?_, fun o notice lower => ?_, fun o notice higher => ?_, rankTimer.trans timer, ctl, acq, sup,
    allow, maint, fun m first other notOwn => (rankOthers m first other (by rwa [station])).trans (others m first other)⟩
  · rw [rankStart_none n (arb ▸ notice)]
    exact ⟨frame, own⟩
  · have stays : outranks u n o.urgency r.own = false := by
      rw [← Bool.not_eq_true, rank, station]; omega
    rw [rankStart_yields (arb ▸ notice) pending stays]
    have yielded := (setRecord_get r n n { r.record n with pending := some (held true) } length ⟨one, last⟩ one).trans (if_pos rfl)
    refine ⟨?_, yielded.trans (by rw [own])⟩
    rw [frame]; rfl
  · have higher : outranks u n o.urgency r.own = true := (rank _ _).2 (by rw [station]; omega)
    rw [rankStart_withdraws (arb ▸ notice) pending higher]
    obtain ⟨gone, holdOff, counter, idle, chans, rotation, start⟩ := settle_withdrawNotice r (arb ▸ notice)
    have chan : r.chan = s.chan := by rw [← holding]; rfl
    have inNotice : r.isIn o.channel .notice = s.isIn o.channel .notice := by rw [← holding]; rfl
    have places : r.disp.rotation = s.disp.rotation := by rw [← holding]; rfl
    have record := (settle_withdrawNotice_kept r (station.symm ▸ ownOne)).record n one (by rwa [station])
    rw [inNotice] at idle
    exact ⟨gone, holdOff, counter.trans (by rw [arb]), idle, fun k other => (chans k other).trans (by rw [chan]),
      by rw [record, pending], rotation.trans places, start⟩

end Sys2Proof.Machine
end

section
/-! PROOFS. Bad frames, the own number and the entries to LINE_FAULT (sections 2.2, 2.4, 2.5 and 2.7). -/
namespace Sys2Proof.Machine

/-! ## Bad frames and the own number (O29) -/

/-- The sender that the record of a first error keeps: the second byte of a frame whose header check holds (R31). -/
theorem errorSender_eq (f : RxFrame) : errorSender f =
    let d := ((f.first :: f.rest).take 261).map (·.data)
    if 4 ≤ d.length ∧ u8At d 3 = 255 - (u8At d 0 + u8At d 1 + u8At d 2) % 256 then some (u8At d 1) else none :=
  if_congr (headerHolds_iff _) rfl rfl

/-- The record of the first error, once a frame has been bad (R31). -/
def Port.erring (p : Port) (e : ErrorKind) (f : RxFrame) : FirstError :=
  p.firstError.getD { error := e, sender := errorSender f, kind := f.first.data.toNat, time := p.seconds }

theorem countBad_eq (s : State) (e : ErrorKind) (f : RxFrame) :
    countBad s e f = s.setPort { s.port with
      bad := min (s.port.bad + 1) 65535, lastSender := none, firstError := some (s.port.erring e f) } := by
  unfold countBad Port.erring
  cases s.port.firstError <;> rfl

/-- Settles O29: a bad frame is counted; a frame with the own number enters MUTE, from MUTE itself without a change. -/
theorem aBadFrameIsCountedAndAnOwnNumberMutes : Obligations.ABadFrameIsCountedAndAnOwnNumberMutes := by
  refine ⟨fun f e s receives bad few => ?_, fun f g s receives good c command => ?_⟩
  · refine congrArg Host.Outcome.next ?_
    rw [receiveFrame_bad receives bad, lossesEnd_few few, countBad_eq]
    unfold Port.erring
    rw [errorSender_eq]
    cases firstError : s.port.firstError <;> simp only [State.setPort_port, firstError, Option.getD] <;> rfl
  · have run : exec c s = .next (enterMute (s.setPort (s.port.heard s.own))) := by
      have received : receiveFrame s f = enterMute (s.setPort (s.port.heard s.own)) := by
        rw [receiveFrame_good receives good, if_pos rfl]
      simp only [List.mem_cons, List.not_mem_nil, or_false] at command
      rcases command with rfl | rfl | rfl <;> exact congrArg Host.Outcome.next received
    have silent : s.port.tx = none := by
      simp only [State.receives, Bool.and_eq_true, Option.isNone_iff_eq_none] at receives
      exact receives.2
    obtain ⟨one, -⟩ := checkFrame_good good
    refine ⟨_, run, ?_⟩
    by_cases mute : s.port.state = .mute
    · have stays : enterMute (s.setPort (s.port.heard s.own)) = s.setPort (s.port.heard s.own) := if_pos mute
      rw [stays]
      refine ⟨?_, fun h => absurd mute h, fun _ => ⟨rfl, rfl⟩, fun m _ _ => rfl, rfl, rfl, rfl, rfl, rfl, rfl, rfl⟩
      rw [if_pos mute, if_pos mute]
      simp only [State.setPort_port, Port.heard, mute.symm, silent.symm]
    · obtain ⟨port, discarded⟩ := enterMute_eq (s.setPort (s.port.heard s.own)) mute
      have enters : enterMute (s.setPort (s.port.heard s.own)) =
          leaveActive ((s.setPort (s.port.heard s.own)).setPort { s.port.heard s.own with lineFaultTimer := none }) .mute := if_neg mute
      have kept := leaveActive_kept ((s.setPort (s.port.heard s.own)).setPort { s.port.heard s.own with lineFaultTimer := none })
        .mute one
      refine ⟨?_, fun _ => discarded.congr_left rfl rfl rfl rfl rfl rfl, fun h => absurd h mute, fun m first other => ?_, ?_⟩
      · rw [port, if_neg mute, if_neg mute]; rfl
      · rw [enters]; exact kept.record m first other
      · simp

/-! ## Entries to LINE_FAULT (O24) -/

/-- The port in LINE_FAULT (R25). -/
def Port.faulted (p : Port) : Port :=
  { p with
    state := .lineFault, lineFaults := min (p.lineFaults + 1) 65535, lineFaultTimer := some 30000
    lossCount := 0, lastSender := none, queue := ⟨none, none, none⟩, tx := none }

/-- An entry to LINE_FAULT: the port, and the reports on what it discards (R25, R28). -/
theorem enterLineFault_eq (s : State) :
    (enterLineFault s).port = s.port.faulted ∧ FramesDiscarded s (enterLineFault s) :=
  ⟨leaveActive_eq _ _ (by decide), (leaveActive_discards _ _).congr_left rfl rfl rfl rfl rfl rfl⟩

/-- A frame that is being received is cut: it ends as a bad FRAMING frame (R20, R25). -/
theorem cutFrame_eq (s : State) (f : RxFrame) :
    cutFrame s (some f) = if s.port.sync = true then s else s.setPort { s.port with
      bad := min (s.port.bad + 1) 65535, lastSender := none, firstError := some (s.port.erring .framing f) } := by
  rw [← countBad_eq]; rfl

theorem cutFrame_kept (s : State) (frame : Option RxFrame) :
    (cutFrame s frame).port.queue = s.port.queue ∧ (cutFrame s frame).port.tx = s.port.tx := by
  rcases frame with _ | f
  · exact ⟨rfl, rfl⟩
  · rw [cutFrame_eq]; split <;> exact ⟨rfl, rfl⟩

/-- After a received frame nothing is in transmission, and the state of the port stands (R22, R125). -/
theorem deliver_port (s : State) (n : Nat) (g : Frame) (silent : s.port.tx = none) :
    (deliver s n g).port.state = s.port.state ∧ (deliver s n g).port.tx = none := by
  have withdrawn : ∀ u : State, u.port.tx = none → (withdrawNotice u).port.tx = none := by
    intro u silent
    unfold withdrawNotice dropNotice withdrawStart
    split
    · simp only [backToIdle_frame]
      split <;> simp [silent]
    · exact silent
  have ranked : ∀ u : State, u.port = s.port → (rankStart u n).port.state = s.port.state ∧ (rankStart u n).port.tx = none := by
    intro u same
    unfold rankStart
    split
    · split
      · simp [same, withdrawn u (by rw [same, silent])]
      · simp [same, silent]
    · simp [same, silent]
  cases g with
  | stage p => exact ⟨rfl, silent⟩
  | quit p => exact ⟨rfl, silent⟩
  | start p => exact ranked _ rfl

/-- The same state with no run of losses. -/
def State.lossless (s : State) : State := s.setPort { s.port with lossCount := 0 }

/-- The end of a received frame after the sixteenth loss: what the frame does with no losses, and then the entry (R23). -/
theorem receiveFrame_sixteenth {s : State} {f : RxFrame} (receives : s.receives = true)
    (listens : s.port.state = .listen ∨ s.port.state = .active) (losses : 16 ≤ s.port.lossCount)
    (other : ∀ g, checkFrame false f ≠ .good s.own g) :
    receiveFrame s f = enterLineFault (receiveFrame s.lossless f) ∧
      (receiveFrame s.lossless f).port.tx = none := by
  have silent : s.port.tx = none := by
    simp only [State.receives, Bool.and_eq_true, Option.isNone_iff_eq_none] at receives
    exact receives.2
  have receives' : s.lossless.receives = true := receives
  have few : s.lossless.port.lossCount < 16 := Nat.zero_lt_succ _
  have enters : ∀ u : State, u.port.state = s.port.state →
      lossesEnd (decide (16 ≤ s.port.lossCount)) u = enterLineFault u := by
    intro u state
    have due : (decide (16 ≤ s.port.lossCount) && (u.port.state == .listen || u.port.state == .active)) = true := by
      rw [decide_eq_true losses, state]
      rcases listens with h | h <;> rw [h] <;> rfl
    exact if_pos due
  cases verdict : checkFrame false f with
  | bad e =>
    rw [receiveFrame_bad receives verdict, receiveFrame_bad receives' verdict, lossesEnd_few few,
      enters (countBad (s.setPort { s.port with idle := some 0 }) e f) (by rw [countBad_eq]; rfl), countBad_eq, countBad_eq]
    exact ⟨rfl, silent⟩
  | good n g =>
    have peer : n ≠ s.own := fun same => other g (same ▸ verdict)
    rw [receiveFrame_good receives verdict, if_neg peer, receiveFrame_peer receives' verdict peer few]
    obtain ⟨state, tx⟩ := deliver_port (s.setPort (s.port.heard n)) n g silent
    rw [enters _ state]
    exact ⟨rfl, tx⟩

/-- Settles O24: every entry is that of `enterLineFault_eq`, on the state that the cut or the received frame has left. -/
theorem lineFaultIsEnteredOnAStuckLineOrADriveFailure : Obligations.LineFaultIsEnteredOnAStuckLineOrADriveFailure := by
  intro s sender fault stands entered
  have enters : ∀ frame, entered frame (enterLineFault (cutFrame (s.setPort { s.port with idle := none }) frame)) := by
    intro frame
    obtain ⟨port, discarded⟩ := enterLineFault_eq (cutFrame (s.setPort { s.port with idle := none }) frame)
    obtain ⟨queue, tx⟩ := cutFrame_kept (s.setPort { s.port with idle := none }) frame
    refine ⟨port.trans ?_, discarded.congr_left queue tx (by simp) (by simp) (by simp) (by simp), by simp [stands]⟩
    rcases frame with _ | f
    · rfl
    · have from_sender : sender f = errorSender f := (errorSender_eq f).symm
      rw [cutFrame_eq]
      cases sync : s.port.sync <;> cases first : s.port.firstError <;>
        simp [sync, first, Port.faulted, Port.erring, fault, from_sender]
  refine ⟨fun frame listens => ⟨_, congrArg Host.Outcome.next (if_pos listens), enters frame⟩, fun frame away active => ?_,
    fun frame active sending => ⟨_, congrArg Host.Outcome.next (if_pos ⟨active, sending⟩), enters frame⟩,
    fun f receives listens losses other c command => ?_⟩
  · exact congrArg Host.Outcome.next (if_neg (not_or.2 ⟨away, active⟩))
  · have run : ∀ u : State, exec c u = .next (receiveFrame u f) := by
      simp only [List.mem_cons, List.not_mem_nil, or_false] at command
      rcases command with rfl | rfl | rfl | rfl <;> exact fun _ => rfl
    obtain ⟨entry, silent⟩ := receiveFrame_sixteenth receives listens losses other
    have after : ∀ u : State, u.port.tx = none → (enterLineFault u).port = fault u.port ∧ FramesDiscarded u (enterLineFault u) ∧
        stands u (enterLineFault u) ∧ (enterLineFault u).view = u.view := fun u silent =>
      ⟨(enterLineFault_eq u).1, (enterLineFault_eq u).2, by simp [stands], leaveActive_view _ _ silent⟩
    refine ⟨_, receiveFrame s.lossless f, run s, run _, ?_⟩
    rw [entry]
    exact after _ silent

end Sys2Proof.Machine
end

section
/-! PROOFS. The entry to JOINING, from the self-test and from LEFT, and the end of the join listen (sections 2.9, 2.10, 3.3 and
3.4). -/
namespace Sys2Proof.Machine

/-! ## The placement of the channels (R153) -/

/-- What the placement of the other channels leaves: everything but their states and places in the hand-running set. -/
structure PlaceKept (k : Chan) (s t : State) : Prop where
  ctl : t.ctl = s.ctl
  acq : t.acq = s.acq
  chan : t.chan k = s.chan k
  hand : quadGet t.disp.hand k = quadGet s.disp.hand k
  disp : t.disp = { s.disp with hand := t.disp.hand }

theorem PlaceKept.refl (k : Chan) (s : State) : PlaceKept k s s := ⟨rfl, rfl, rfl, rfl, rfl⟩

theorem PlaceKept.trans {k : Chan} {s t u : State} (h : PlaceKept k s t) (g : PlaceKept k t u) : PlaceKept k s u :=
  ⟨g.ctl.trans h.ctl, g.acq.trans h.acq, g.chan.trans h.chan, g.hand.trans h.hand, by rw [g.disp, h.disp]⟩

theorem placeAtJoining_kept (k : Chan) (s : State) (j : Chan) (other : k ≠ j) : PlaceKept k s (placeAtJoining s j) := by
  unfold placeAtJoining
  split
  · rcases placeByMode_cases s j with still | ⟨c, -, moved⟩
    · rw [still]; exact .refl k s
    · rw [moved]
      refine ⟨rfl, rfl, by rw [moveChan_chan, if_neg other], ?_, rfl⟩
      rw [moveChan_hand, quadGet_quadSet, if_neg other]
  · exact .refl k s

/-- A fitted channel that is not in FAULT is placed by its mode. -/
theorem placeAtJoining_placed (s : State) (k : Chan) (fitted : s.fitted k = true) (sound : s.chanState k ≠ some .fault) :
    Placed s (placeAtJoining s k) k (s.chan k).mode := by
  have placed : placeAtJoining s k = placeByMode s k := by
    simp [placeAtJoining, fitted, State.isIn, sound]
  rw [placed]
  exact (placeByMode_chan s k).1

/-- Any other channel is left as it is. -/
theorem placeAtJoining_still (s : State) (k : Chan) (still : s.fitted k = false ∨ s.chanState k = some .fault) :
    placeAtJoining s k = s := by
  rcases still with h | h <;> simp [placeAtJoining, State.isIn, h]

/-- A placement reads the configuration, the current and the channel with its place in the hand-running set. -/
theorem Placed.carried {s s' t t' : State} {k : Chan} {m : Option Mode} (h : Placed s' t' k m) (cfg : s'.cfg = s.cfg)
    (acq : s'.acq = s.acq) (before : s'.chan k = s.chan k) (hand : quadGet s'.disp.hand k = quadGet s.disp.hand k)
    (chan : t'.chan k = t.chan k) (hand' : quadGet t'.disp.hand k = quadGet t.disp.hand k) : Placed s t k m := by
  have pump : s'.pump k = s.pump k := by simp only [State.pump, cfg]
  have current : s'.current k = s.current k := by simp only [State.current, acq]
  rcases m with _ | m | m | m <;>
    simpa only [Placed, Rested, HandJudged, cfg, pump, current, before, hand, chan, hand'] using h

/-! ## The entry to JOINING (R48, R79, R119) -/

/-- The state in which the entry to JOINING places the channels. -/
def joining (s : State) : State :=
  dropNotice ((s.setSched { s.sched with
    coord := some .joining, listenTimer := some (3 * reportPeriod s.cfg * 1000), reportTimer := none, prompt := false }).setAlloc
      .reset)

/-- The entry places the channels and forms the figures. -/
theorem enterJoining_eq (s : State) : enterJoining s = settle s 0 (forChans placeAtJoining (joining s)) := rfl

/-- The blocks of an entry to JOINING that its placement leaves. -/
theorem enterJoining_blocks (s : State) :
    (enterJoining s).sched = (joining s).sched ∧ (enterJoining s).alloc = (joining s).alloc ∧
      (enterJoining s).arb = (joining s).arb ∧ (enterJoining s).view = (joining s).view ∧
      (enterJoining s).port = (joining s).port ∧ (enterJoining s).chans = (forChans placeAtJoining (joining s)).chans := by
  have sched : (forChans placeAtJoining (joining s)).sched = (joining s).sched := by simp [forChans]
  have silent : (forChans placeAtJoining (joining s)).reporting = false := by
    rw [State.reporting, sched]; simp [joining]
  rw [enterJoining_eq, settle_silent _ _ _ silent]
  simp [forChans]

/-- What a channel is placed from stands until its placement. -/
theorem enterJoining_chan (s : State) (k : Chan) :
    ∃ u, PlaceKept k (joining s) u ∧ (enterJoining s).chan k = (placeAtJoining u k).chan k ∧
      quadGet (enterJoining s).disp.hand k = quadGet (placeAtJoining u k).disp.hand k := by
  obtain ⟨u, before, after⟩ := forChans_around (PlaceKept.refl k) PlaceKept.trans k (placeAtJoining_kept k) (joining s)
  obtain ⟨-, -, -, -, -, chans⟩ := enterJoining_blocks s
  obtain ⟨-, -, hand, -⟩ := settle_disp_kept s 0 (forChans placeAtJoining (joining s))
  refine ⟨u, before, ?_, ?_⟩
  · rw [← after.chan]; simp only [State.chan, chans]
  · rw [enterJoining_eq, hand, after.hand]

/-- The station has joined (R48, R79, R102, R119, R153). -/
theorem enterJoining_joined (s : State) : Joined s (enterJoining s) := by
  obtain ⟨sched, alloc, arb, -, -, -⟩ := enterJoining_blocks s
  obtain ⟨gone, counter, holdOff⟩ := dropNotice_arb ((s.setSched { s.sched with
    coord := some .joining, listenTimer := some (3 * reportPeriod s.cfg * 1000), reportTimer := none, prompt := false }).setAlloc
      .reset)
  have base : (joining s).chans = s.chans ∧ (joining s).disp = s.disp ∧ (joining s).ctl = s.ctl ∧ (joining s).acq = s.acq := by
    simp [joining]
  obtain ⟨chans, disp, ctl, acq⟩ := base
  have placing : ∀ u k, PlaceKept k (joining s) u → u.ctl = s.ctl ∧ u.acq = s.acq ∧ u.chan k = s.chan k ∧
      quadGet u.disp.hand k = quadGet s.disp.hand k := fun u k h =>
    ⟨h.ctl.trans ctl, h.acq.trans acq, h.chan.trans (by simp only [State.chan, chans]), h.hand.trans (by rw [disp])⟩
  constructor
  case coord => rw [sched]; simp [joining]
  case timers => rw [sched]; simp [joining, reportPeriod]
  case prompt => rw [sched]; simp [joining]
  case alloc => rw [alloc]; simp [joining]
  case notice => rw [arb]; exact ⟨gone, counter⟩
  case holdOff => rw [arb]; exact holdOff
  case placed =>
    intro k fitted sound
    obtain ⟨u, before, chan, hand⟩ := enterJoining_chan s k
    obtain ⟨ctl', acq', chan', hand'⟩ := placing u k before
    have cfg : u.cfg = s.cfg := by simp only [State.cfg, ctl']
    have placed := placeAtJoining_placed u k (by rw [← fitted]; simp only [State.fitted, State.pump, cfg])
      (by rw [State.chanState, chan']; exact sound)
    rw [chan'] at placed
    exact placed.carried cfg acq' chan' hand' chan.symm hand.symm
  case kept =>
    intro k still
    obtain ⟨u, before, chan, hand⟩ := enterJoining_chan s k
    obtain ⟨ctl', acq', chan', hand'⟩ := placing u k before
    have cfg : u.cfg = s.cfg := by simp only [State.cfg, ctl']
    rw [chan, hand, placeAtJoining_still u k]
    · exact ⟨chan', hand'⟩
    · rw [State.chanState, chan', show u.fitted k = s.fitted k by simp only [State.fitted, State.pump, cfg]]
      exact still
  case figures => exact settle_formed _ _ _
  case rotation =>
    have kept : (forChans placeAtJoining (joining s)).disp.rotation = (joining s).disp.rotation :=
      forChans_same (fun u => u.disp.rotation) (fun u j => by
        rcases placeByMode_cases u j with still | ⟨c, -, moved⟩
        · unfold placeAtJoining; split
          · rw [still]
          · rfl
        · unfold placeAtJoining; split
          · rw [moved]; rfl
          · rfl) _
    rw [enterJoining_eq, (settle_disp_kept _ _ _).1, kept, disp]
  case frame => simp

/-- `Joined` after a change that leaves channels, figures and configuration, and an arbiter whose hold-off ends with its notice. -/
theorem Joined.congr_left {s s' t : State} (h : Joined s' t) (config : s'.ctl.config = s.ctl.config) (chans : s'.chans = s.chans)
    (disp : s'.disp = s.disp) (acq : s'.acq = s.acq) (sup : s'.sup = s.sup) (allow : s'.allow = s.allow)
    (counter : s'.arb.counter = s.arb.counter)
    (ends : s.arb.notice.isSome = true ∨ s.arb.holdOff = none → s'.arb.notice.isSome = true ∨ s'.arb.holdOff = none) :
    Joined s t := by
  have cfg : s'.cfg = s.cfg := by simp only [State.cfg, config]
  have chan : s'.chan = s.chan := by funext k; simp only [State.chan, chans]
  have fitted : s'.fitted = s.fitted := by funext k; simp only [State.fitted, State.pump, cfg]
  have chanState : s'.chanState = s.chanState := by funext k; simp only [State.chanState, chan]
  obtain ⟨coord, timers, prompt, alloc, notice, holdOff, placed, kept, figures, rotation, frame⟩ := h
  rw [cfg] at timers
  rw [counter] at notice
  rw [fitted, chanState, chan] at placed kept
  rw [disp] at kept rotation
  rw [acq, sup, allow] at frame
  exact ⟨coord, timers, prompt, alloc, notice, fun h => holdOff (ends h),
    fun k fit sound => (placed k fit sound).carried cfg acq (by rw [chan]) (by rw [disp]) rfl rfl, kept, figures, rotation, frame⟩

/-! ## The end of the self-test (O12) -/

/-- When every byte comes back as it was sent, the test has passed (R34). -/
theorem compareSelfTest_returned (sent : List (Nat × Nat × Byte)) :
    compareSelfTest sent (sent.map fun x => ⟨x.2.2, true⟩) = .passed := by
  induction sent with
  | nil => rfl
  | cons x sent ih => simpa [compareSelfTest] using ih

/-- The first byte that comes back wrong makes the record (R35). -/
theorem compareSelfTest_wrong {sent : List (Nat × Nat × Byte)} {i : Nat} {r : RxByte} {x : Nat × Nat × Byte}
    (at_i : sent[i]? = some x) (wrong : ¬ (r.data = x.2.2 ∧ r.stopOk = true)) :
    compareSelfTest sent ((sent.map fun x => ⟨x.2.2, true⟩).take i ++ [r]) =
      .failed ⟨x.1, x.2.1, x.2.2.toNat, r.data.toNat⟩ := by
  induction sent generalizing i with
  | nil => simp at at_i
  | cons y sent ih =>
    cases i with
    | zero =>
      obtain rfl : y = x := by simpa using at_i
      simp [compareSelfTest, wrong]
    | succ i => simpa [compareSelfTest] using ih (i := i) (by simpa using at_i)

/-- The test is four frames of 30 bytes (R34). -/
theorem selfTestSent_place {i : Nat} {x : Nat × Nat × Byte} (at_i : selfTestSent[i]? = some x) :
    x.1 = i / 30 + 1 ∧ x.2.1 = i % 30 := by
  have places : ∀ p ∈ selfTestSent.zipIdx, p.1.1 = p.2 / 30 + 1 ∧ p.1.2.1 = p.2 % 30 := by decide +kernel
  exact places (x, i) (List.mem_zipIdx_iff_getElem?.2 at_i)

/-- The station after a self-test with its record (R35, R182). -/
def handing (s : State) (x : PortState) (record : Option SelfTestRecord) : State :=
  (s.setPort { s.port with state := x, selfTest := record, sync := x != .dead }).setCtl { s.ctl with step := .handedOver }

/-- The port at an entry to JOINING loses at most the frame of the own notice (R119). -/
theorem enterJoining_port (s : State) :
    (enterJoining s).port = { s.port with queue := (enterJoining s).port.queue, tx := (enterJoining s).port.tx } := by
  obtain ⟨-, -, -, -, port, -⟩ := enterJoining_blocks s
  rw [port]
  unfold joining dropNotice withdrawStart
  split
  · dsimp only; split <;> rfl
  · rfl

/-- The hand-over (R48, R182). -/
theorem handOver_joined (s : State) (x : PortState) (record : Option SelfTestRecord) :
    let t := handOver s x record
    t.port = { s.port with state := x, selfTest := record, sync := x != .dead, queue := t.port.queue, tx := t.port.tx } ∧
      t.ctl = { s.ctl with step := .handedOver } ∧ t.view = s.view ∧ t.maint = s.maint ∧ Joined s t := by
  obtain ⟨-, -, -, view, -, -⟩ := enterJoining_blocks (handing s x record)
  obtain ⟨ctl, -, -, -, maint, -⟩ := enterJoining_frame (handing s x record)
  refine ⟨enterJoining_port (handing s x record), ctl, view.trans (by simp [joining, handing]), maint,
    (enterJoining_joined (handing s x record)).congr_left rfl rfl rfl rfl rfl rfl rfl id⟩

/-- Settles O12: the comparison decides between the two hand-overs. -/
theorem selfTestEndHandsOverInJoining : Obligations.SelfTestEndHandsOverInJoining := by
  intro s selftest returned
  have run : ∀ bytes, exec (.selftestEnd bytes) s = .next (match compareSelfTest selfTestSent bytes with
      | .running => s
      | .passed => handOver s (if s.port.muteHeld then .mute else .listen) none
      | .failed r => handOver s .dead (some r)) := fun bytes => congrArg Host.Outcome.next (if_pos selftest)
  refine ⟨?_, fun i r x at_i wrong => ?_⟩
  · have passed := run returned
    rw [compareSelfTest_returned] at passed
    obtain ⟨port, rest⟩ := handOver_joined s (if s.port.muteHeld then .mute else .listen) none
    refine ⟨_, passed, port.trans ?_, rest⟩
    cases s.port.muteHeld <;> rfl
  · have failed := run (returned.take i ++ [r])
    rw [compareSelfTest_wrong at_i wrong] at failed
    obtain ⟨frame, place⟩ := selfTestSent_place at_i
    exact ⟨_, failed, frame, place, handOver_joined s .dead _⟩

end Sys2Proof.Machine
end

section
/-! PROOFS. The end of the join listen, and the requests LEAVE and REJOIN (sections 3.3, 3.4 and 11.2). -/
namespace Sys2Proof.Machine

/-! ## The end of the join listen (O33) -/

theorem orderActive_eq (s : State) : orderActive s = s.setPort { s.port with
    state := if s.port.state = .listen then .active else s.port.state } := by
  unfold orderActive
  split <;> rfl

/-- The state whose first STAGE is composed at the end of the listen: port and table ready, figures formed (R49, R101). -/
def listened (s : State) : State := settle s 0 (formTable (orderActive s))

/-- What the end of the listen has touched before the first STAGE: the port's state and the dispatch figures. -/
structure Listened (s u : State) : Prop where
  blocks : u.sched = s.sched ∧ u.view = s.view ∧ u.alloc = s.alloc ∧ u.allow = s.allow
  stands : u.chans = s.chans ∧ u.arb = s.arb ∧ u.acq = s.acq ∧ u.sup = s.sup ∧ u.ctl = s.ctl
  port : u.port = { s.port with state := if s.port.state = .listen then .active else s.port.state }
  disp : u.disp.lockout = s.disp.lockout ∧ u.disp.instPower = s.disp.instPower
  table : ∀ h, s.acq.pub.head = some h → ∀ k, u.disp.table.bind (quadGet · k) =
    if s.fitted k then some ⟨fullDischarge (s.pump k) h, fullDischarge (s.pump k) h * (s.pump k).nmin / 1022⟩ else none
  formed : FiguresFormed u

theorem listened_listened (s : State) (joining : s.sched.coord = some .joining) : Listened s (listened s) := by
  have silent : (formTable (orderActive s)).reporting = false := by
    simp [State.reporting, orderActive_eq, joining]
  have only : listened s = (formTable (orderActive s)).setDisp (listened s).disp := settle_silent _ _ _ silent
  obtain ⟨-, table, -, lockout, -, instPower, -⟩ := settle_disp_kept s 0 (formTable (orderActive s))
  have disp : (orderActive s).disp = s.disp := by rw [orderActive_eq]; rfl
  constructor
  case blocks => rw [only]; simp [orderActive_eq]
  case stands => rw [only]; simp [orderActive_eq]
  case port => rw [only]; simp [orderActive_eq]
  case disp => exact ⟨lockout.trans (by rw [formTable_disp, disp]), instPower.trans (by rw [formTable_disp, disp])⟩
  case table =>
    intro h head k
    have acq : (orderActive s).acq = s.acq := by rw [orderActive_eq]; rfl
    have entry := formTable_entry (orderActive s) h (by rw [acq]; exact head) k
    have same : (orderActive s).fitted k = s.fitted k ∧ (orderActive s).pump k = s.pump k := by
      rw [orderActive_eq]; exact ⟨rfl, rfl⟩
    rw [same.1, same.2, ← table] at entry
    exact entry
  case formed => exact settle_formed _ _ _

/-- The station in COORDINATING after its first STAGE (R49, R80). -/
def coordinating (u : State) : State :=
  let t := composeStage u
  (t.setAlloc { t.alloc with timer := some 1000 }).setSched { t.sched with coord := some .coordinating, listenTimer := none }

/-- Settles O33: the first STAGE is composed from the state that `Listened` describes. -/
theorem theEndOfTheListenStartsCoordination : Obligations.TheEndOfTheListenStartsCoordination := by
  intro s joining running
  have run : exec .listenTimerExpiry s = .next (coordinating (listened s)) :=
    congrArg Host.Outcome.next (if_pos ⟨joining, running⟩)
  have ready := listened_listened s joining
  generalize listened s = u at run ready
  obtain ⟨⟨sched, view, alloc, allow⟩, ⟨chans, arb, acq, sup, ctl⟩, port, ⟨lockout, instPower⟩, table, formed⟩ := ready
  have cfg : u.cfg = s.cfg := by simp only [State.cfg, ctl]
  have own : u.own = s.own := by simp only [State.own, cfg]
  have composed := composeStage_composed u
  have touched := composeStage_eq u
  obtain ⟨number, flags, levels, allocated, station, csched, -, record, queued⟩ := composed
  rw [sched, acq, alloc, lockout, allow, joining] at flags
  rw [sched] at number
  rw [acq] at levels
  rw [alloc] at allocated
  rw [instPower, cfg] at station
  rw [sched, cfg] at csched
  rw [own, view] at record
  rw [port] at queued
  obtain ⟨auto, hand, power, installed, digest⟩ := station
  have cDisp : (composeStage u).disp = u.disp := by simp
  have cPort : (composeStage u).port = { u.port with queue := (composeStage u).port.queue } := congrArg State.port touched
  refine ⟨_, stagePayload u, run, ?sched, ?port, ?alloc, number, flags, levels.1, levels.2, allocated.1, allocated.2.1,
    allocated.2.2.1, allocated.2.2.2, ?auto, ?hand, ?power, installed, digest, record, ?table, ?figures, ?stands⟩
  case sched => simp [coordinating, csched]
  case port =>
    refine cPort.trans ?_
    rw [queued, port]
    cases s.port.state <;> rfl
  case alloc => simp [coordinating, alloc]
  case auto => exact auto.trans (congrArg _ cDisp.symm)
  case hand => exact hand.trans (congrArg _ cDisp.symm)
  case power => exact power.trans (congrArg _ cDisp.symm)
  case table =>
    intro h head k
    exact (congrArg (fun d : Dispatch => d.table.bind (quadGet · k)) cDisp).trans (table h head k)
  case figures => exact formed.congr (by simp [coordinating]) (by simp [coordinating]) (by simp [coordinating])
  case stands => simp [coordinating, chans, arb, acq, sup, ctl]

/-! ## Requests at an open port (R184) -/

/-- With no response being sent and no line held, a request is executed at once (R184). -/
theorem submitRequest_idle {s : State} (opened : s.portOpen = true) (held : s.maint.held = none) (silent : s.maint.response = none)
    (r : Request) : submitRequest s r = execute s r := by
  simp [submitRequest, submitLine, executeLine, opened, held, silent]

/-! ## LEAVE (O52) -/

/-- The station that has been told to leave (R54, R95). -/
def told (s : State) : State :=
  (s.setSched { s.sched with coord := some .leaving }).setAlloc { s.alloc with qTgt := 0 }

/-- A prompt cause waits for the spacing timer, and for a STAGE on the line (R52). -/
theorem promptCause_waits (s : State) (reporting : s.reporting = true)
    (busy : s.sched.spacingTimer.isSome = true ∨ StageOnLine s) :
    promptCause s = s.setSched { s.sched with prompt := true } := by
  have waits : (s.sched.spacingTimer.isNone && !stageOnLine s) = false := by
    rcases busy with h | h
    · simp [Option.isNone_eq_false_iff.2 h]
    · simp [(stageOnLine_iff s).2 h]
  simp [promptCause, reporting, waits]

/-- Otherwise it is reported at once (R51). -/
theorem promptCause_composes (s : State) (reporting : s.reporting = true) (spacing : s.sched.spacingTimer = none)
    (line : ¬ StageOnLine s) : promptCause s = composeStage s := by
  have free : stageOnLine s = false := by simpa [← stageOnLine_iff] using line
  simp [promptCause, reporting, spacing, free]

/-- A QUIT that a port in another state refuses ends LEAVING at once (R53, R56). -/
theorem quitTest_refused (s : State) (leaving : s.sched.coord = some .leaving) (holds : quitCondition s = true)
    (offered : s.sched.quitOffered = false) (away : s.port.state ≠ .active) :
    quitTest s = enterLeft (s.setSched { s.sched with quitOffered := true }) := by
  simp [quitTest, offerQuit, quitEnded, leaving, holds, offered, away]

/-- A QUIT that is queued removes a queued START, whose notice then begins its hold-off (R46, R123). -/
theorem quitTest_removes (s : State) (leaving : s.sched.coord = some .leaving) (holds : quitCondition s = true)
    (offered : s.sched.quitOffered = false) (active : s.port.state = .active) {p : StartPayload}
    (start : s.port.queue.start = some p) : (quitTest s).arb = s.arb.ended s.cfg (some (.start p)) := by
  have queued : ∀ u : State, u.arb = s.arb → u.ctl = s.ctl → (startEnded u p.number).arb = s.arb.ended s.cfg (some (.start p)) := by
    intro u arb ctl
    rw [startEnded_arb, arb, show u.cfg = s.cfg by simp only [State.cfg, ctl]]
  unfold quitTest offerQuit
  rw [if_pos ⟨leaving, holds, offered⟩]
  simp only [State.setSched_port, active, if_true, start]
  exact queued _ rfl rfl

/-- The station once the LEAVE has been answered. -/
def afterLeave (s : State) : State := respond (quitTest (promptCause (told s))) .ok

/-- Answering changes the response alone. -/
theorem respond_eq (s : State) (r : Response) : respond s r = { s with maint := { s.maint with response := some r } } := rfl

/-- The QUIT condition stands through the prompt cause of a LEAVE (R55). -/
theorem quitCondition_told (s : State) :
    quitCondition (promptCause (told s)) = true ↔ (∀ k, s.turning k = false) ∧ s.disp.eHand = 0 := by
  have turning : ∀ k, (promptCause (told s)).turning k = s.turning k := fun k => by
    simp [State.turning, State.inR, State.isIn, State.chanState, State.chan, told]
  have eHand : (promptCause (told s)).disp.eHand = s.disp.eHand := by simp [told]
  rw [quitCondition_iff, eHand]
  simp only [turning]

/-- What the prompt cause of a LEAVE leaves for the QUIT test. -/
theorem promptCause_told (s : State) :
    (promptCause (told s)).sched.coord = some .leaving ∧
      (promptCause (told s)).sched.quitOffered = s.sched.quitOffered ∧ (promptCause (told s)).port.state = s.port.state ∧
      (promptCause (told s)).port.queue.start = s.port.queue.start ∧ (promptCause (told s)).arb = s.arb ∧
      (promptCause (told s)).cfg = s.cfg := by
  refine ⟨by simp [told], (promptCauses_quit 1 (told s)).1, by simp [told], (promptCause_start _).trans rfl, by simp [told], ?_⟩
  simp [State.cfg, told]

/-- What stands at a LEAVE. -/
theorem afterLeave_stands (s : State) :
    (afterLeave s).maint = { s.maint with response := some .ok } ∧
      (afterLeave s).alloc = { s.alloc with qTgt := 0, timer := (afterLeave s).alloc.timer } ∧ (afterLeave s).chans = s.chans ∧
      (afterLeave s).disp = s.disp ∧ (afterLeave s).acq = s.acq ∧ (afterLeave s).allow = s.allow ∧ (afterLeave s).sup = s.sup ∧ (afterLeave s).ctl = s.ctl := by
  have alloc : (promptCause (told s)).alloc = { s.alloc with qTgt := 0 } := by simp [told]
  refine ⟨by simp [afterLeave, respond, told], ?_, ?_⟩
  · have tested := quitTest_alloc (promptCause (told s))
    rw [alloc] at tested
    exact tested
  · simp [afterLeave, respond, told]

/-- A station that is not idle stays in LEAVING, with its prompt cause pending or reported (R51, R52, R55). -/
theorem afterLeave_busy (s : State) (busy : ¬ ((∀ k, s.turning k = false) ∧ s.disp.eHand = 0)) :
    (afterLeave s).sched.coord = some .leaving ∧ (afterLeave s).arb = s.arb ∧ (afterLeave s).alloc.timer = s.alloc.timer ∧
      (s.sched.spacingTimer.isSome = true ∨ StageOnLine s →
        (afterLeave s).sched = { s.sched with coord := some .leaving, prompt := true } ∧ (afterLeave s).port = s.port ∧
          (afterLeave s).view = s.view) ∧
      (s.sched.spacingTimer = none → ¬ StageOnLine s → ∃ p, Composed (told s) (afterLeave s) p) := by
  have held : quitCondition (promptCause (told s)) = false := by
    rw [← Bool.not_eq_true, quitCondition_told]; exact busy
  have stays : afterLeave s = respond (promptCause (told s)) .ok := by rw [afterLeave, quitTest_still _ (.inl held)]
  have reporting : (told s).reporting = true := by simp [State.reporting, told]
  rw [stays]
  refine ⟨by simp [respond, told], by simp [respond, told], by simp [respond, told], fun wait => ?_, fun spacing line => ?_⟩
  · rw [promptCause_waits (told s) reporting wait]
    exact ⟨rfl, rfl, rfl⟩
  · rw [promptCause_composes (told s) reporting spacing line]
    obtain ⟨number, flags, levels, allocated, station, sched, view, own, queued⟩ := composeStage_composed (told s)
    exact ⟨_, number, flags, levels, allocated, station, sched, view, own, queued⟩

/-- An idle station with an ACTIVE port queues its QUIT (R46, R55, R123). -/
theorem afterLeave_active (s : State) (idle : (∀ k, s.turning k = false) ∧ s.disp.eHand = 0) (offered : s.sched.quitOffered = false)
    (active : s.port.state = .active) :
    (afterLeave s).sched.coord = some .leaving ∧ (afterLeave s).sched.quitOffered = true ∧
      (afterLeave s).port.queue.start = none ∧ (afterLeave s).port.queue.quit = some ⟨1, ((afterLeave s).sched.counter + 255) % 256⟩ ∧
      ∀ n p, s.arb.notice = some n → s.port.queue.start = some p → p.number = n.number →
        (afterLeave s).arb.notice = some { n with phase := .holding } ∧ (afterLeave s).arb.holdOff = some (s.cfg.tHold * 1000) := by
  have holds := (quitCondition_told s).2 idle
  obtain ⟨coord, quitOffered, state, start, arb, cfg⟩ := promptCause_told s
  obtain ⟨coord', offered', quit, empty⟩ := (quitTest_offers _ coord holds (quitOffered.trans offered)).1 (state.trans active)
  refine ⟨coord', offered', empty, quit, fun n p notice queued same => ?_⟩
  have removed := quitTest_removes _ coord holds (quitOffered.trans offered) (state.trans active) (start.trans queued)
  rw [arb, cfg, s.arb.ended_same s.cfg notice same] at removed
  have after : (afterLeave s).arb = s.arb.holding s.cfg n := removed
  rw [after]
  exact ⟨rfl, rfl⟩

/-- An idle station with any other port has left (R53, R56). -/
theorem afterLeave_away (s : State) (idle : (∀ k, s.turning k = false) ∧ s.disp.eHand = 0) (offered : s.sched.quitOffered = false)
    (away : s.port.state ≠ .active) :
    (afterLeave s).sched.coord = some .left ∧ (afterLeave s).sched.reportTimer = none ∧ (afterLeave s).sched.spacingTimer = none ∧
      (afterLeave s).sched.prompt = false ∧ (afterLeave s).sched.quitOffered = false ∧ (afterLeave s).alloc.timer = none ∧
      (afterLeave s).port.queue.stage = none := by
  obtain ⟨coord, quitOffered, state, -, -, -⟩ := promptCause_told s
  rw [afterLeave, quitTest_refused _ coord ((quitCondition_told s).2 idle) (quitOffered.trans offered) (by rwa [state])]
  simp [respond, enterLeft]

/-! ## REJOIN (O52) -/

/-- In LEFT nothing that is discarded is reported on: neither scheduler nor view is touched (R53). -/
theorem reportDiscardedIf_inLeft (s : State) (onLine : Bool) (f : Option Frame) (inLeft : s.sched.coord = some .left) :
    (reportDiscardedIf s onLine f).sched = s.sched ∧ (reportDiscardedIf s onLine f).view = s.view := by
  have silent : s.reporting = false := by simp [State.reporting, inLeft]
  rcases f with _ | (p | p | p)
  · exact ⟨rfl, rfl⟩
  · cases onLine <;> simp [reportDiscardedIf, reportDiscarded, stageLost, silent]
  · simp [reportDiscardedIf, reportDiscarded]
  · simp [reportDiscardedIf, reportDiscarded, quitEnded, inLeft]

theorem leaveActive_inLeft (s : State) (x : PortState) (inLeft : s.sched.coord = some .left) :
    (leaveActive s x).sched = s.sched ∧ (leaveActive s x).view = s.view := by
  obtain ⟨s1, v1⟩ := reportDiscardedIf_inLeft (emptied s x) true (s.port.tx.map (·.frame)) inLeft
  obtain ⟨s2, v2⟩ := reportDiscardedIf_inLeft _ false (s.port.queue.start.map .start) ((congrArg Scheduler.coord s1).trans inLeft)
  obtain ⟨s3, v3⟩ := reportDiscardedIf_inLeft _ false (s.port.queue.quit.map .quit)
    ((congrArg Scheduler.coord (s2.trans s1)).trans inLeft)
  rw [leaveActive_reports]
  exact ⟨s3.trans (s2.trans s1), v3.trans (v2.trans v1)⟩

/-- A frame that ends advances no START number, and starts the hold-off of a notice alone (R123). -/
theorem Arbiter.ended_keeps (a : Arbiter) (c : StationConfig) (f : Option Frame) :
    (a.ended c f).counter = a.counter ∧ (a.ended c f).notice.isSome = a.notice.isSome ∧
      (a.notice = none → (a.ended c f).holdOff = a.holdOff) := by
  rcases f with _ | (p | p | p)
  · exact ⟨rfl, rfl, fun _ => rfl⟩
  · exact ⟨rfl, rfl, fun _ => rfl⟩
  · cases notice : a.notice with
    | none => simp [Arbiter.ended, notice]
    | some n => simp only [Arbiter.ended, notice]; split <;> simp [Arbiter.holding, notice]
  · exact ⟨rfl, rfl, fun _ => rfl⟩

/-- The station whose port has been ordered to LISTEN by a REJOIN (R57). -/
def recalled (s : State) : State := orderListen (s.setSched { s.sched with riverSide := none })

/-- What a REJOIN has touched before the entry to JOINING: the river side, and an ACTIVE port with its frames. -/
structure Recalled (s u : State) : Prop where
  stands : u.ctl = s.ctl ∧ u.chans = s.chans ∧ u.disp = s.disp ∧ u.acq = s.acq ∧ u.sup = s.sup ∧ u.allow = s.allow ∧
    u.maint = s.maint
  view : u.view = s.view
  riverSide : u.sched.riverSide = none
  active : s.port.state = .active → u.port = { s.port with state := .listen, queue := ⟨none, none, none⟩, tx := none }
  away : s.port.state ≠ .active → u.port = s.port
  counter : u.arb.counter = s.arb.counter
  ends : s.arb.notice.isSome = true ∨ s.arb.holdOff = none → u.arb.notice.isSome = true ∨ u.arb.holdOff = none

theorem recalled_recalled (s : State) (inLeft : s.sched.coord = some .left) : Recalled s (recalled s) := by
  by_cases active : s.port.state = .active
  · have departs : recalled s = leaveActive (s.setSched { s.sched with riverSide := none }) .listen := if_pos active
    obtain ⟨sched, view⟩ := leaveActive_inLeft (s.setSched { s.sched with riverSide := none }) .listen inLeft
    have port := leaveActive_eq (s.setSched { s.sched with riverSide := none }) .listen (by decide)
    have arb := leaveActive_arb (s.setSched { s.sched with riverSide := none }) .listen
    obtain ⟨counter, notice, holdOff⟩ := s.arb.ended_keeps s.cfg (s.port.tx.map (·.frame))
    obtain ⟨counter', notice', holdOff'⟩ := (s.arb.ended s.cfg (s.port.tx.map (·.frame))).ended_keeps s.cfg
      (s.port.queue.start.map .start)
    change _ = (s.arb.ended s.cfg (s.port.tx.map (·.frame))).ended s.cfg (s.port.queue.start.map .start) at arb
    rw [departs]
    refine ⟨by simp, view, congrArg Scheduler.riverSide sched, fun _ => port, fun away => absurd active away, ?_, ?_⟩
    · rw [arb, counter', counter]
    · rw [arb, notice', notice]
      rintro (stands | none)
      · exact .inl stands
      · cases h : s.arb.notice with
        | some n => exact .inl rfl
        | none =>
          refine .inr ((holdOff' ?_).trans ((holdOff h).trans none))
          rw [← Option.isNone_iff_eq_none, ← Option.not_isSome, notice, h]; rfl
  · have stays : recalled s = s.setSched { s.sched with riverSide := none } := if_neg active
    rw [stays]
    exact ⟨⟨rfl, rfl, rfl, rfl, rfl, rfl, rfl⟩, rfl, rfl, fun h => absurd h active, fun _ => rfl, rfl, id⟩

/-- With nothing queued and nothing sent, no frame is withdrawn with a notice. -/
theorem dropNotice_empty (s : State) (start : s.port.queue.start = none) (tx : s.port.tx = none) :
    (dropNotice s).port = s.port := by
  have same : ∀ q : TxQueue, q.start = none → ({ q with start := none } : TxQueue) = q := fun q h => by rw [← h]
  unfold dropNotice withdrawStart
  split
  · dsimp only
    split
    · simp [same _ start]
    · have same : (s.port.tx.map fun t => { t with withdrawn := true }) = s.port.tx := by rw [tx]; rfl
      simp only [State.setArb_port, State.setPort_port, same]
    · rfl
  · rfl

/-- An answer leaves a station joined. -/
theorem Joined.respond {s t : State} (h : Joined s t) (r : Response) : Joined s (respond t r) := by
  obtain ⟨coord, timers, prompt, alloc, notice, holdOff, placed, kept, figures, rotation, frame⟩ := h
  exact ⟨coord, timers, prompt, alloc, notice, holdOff, fun k fit sound => (placed k fit sound).carried rfl rfl rfl rfl rfl rfl,
    kept, figures.congr rfl rfl rfl, rotation, frame⟩

/-- What a REJOIN leaves (R48, R57). -/
theorem rejoin_joined (s : State) (inLeft : s.sched.coord = some .left) :
    let t := respond (enterJoining (recalled s)) .ok
    Joined s t ∧ t.sched.riverSide = none ∧ t.maint = { s.maint with response := some .ok } ∧ t.ctl = s.ctl ∧
      t.view = s.view ∧
      (s.port.state = .active → t.port = { s.port with state := .listen, queue := ⟨none, none, none⟩, tx := none }) ∧
      (s.port.state ≠ .active → t.port.state = s.port.state) := by
  obtain ⟨⟨ctl, chans, disp, acq, sup, allow, maint⟩, view, riverSide, active, away, counter, ends⟩ := recalled_recalled s inLeft
  generalize recalled s = u at *
  obtain ⟨jsched, -, -, jview, jport, -⟩ := enterJoining_blocks u
  obtain ⟨jctl, -, -, -, jmaint, -⟩ := enterJoining_frame u
  have joined := (enterJoining_joined u).congr_left (by rw [ctl]) chans disp acq sup allow counter ends
  refine ⟨joined.respond .ok, ?_, ?_, jctl.trans ctl, jview.trans (by simp [joining, view]), fun h => ?_, fun h => ?_⟩
  · exact (congrArg Scheduler.riverSide jsched).trans (by simp [joining, riverSide])
  · simp [respond, maint]
  · exact jport.trans ((dropNotice_empty _ (by simp [active h]) (by simp [active h])).trans (active h))
  · have state : (enterJoining u).port.state = u.port.state := by rw [enterJoining_port]
    exact state.trans (by rw [away h])

/-- Settles O52: the QUIT condition decides what a LEAVE leaves, and `Recalled` what a REJOIN joins with. -/
theorem leaveAndRejoinTakeTheStationOutAndBack : Obligations.LeaveAndRejoinTakeTheStationOutAndBack := by
  intro s opened held silent answered u idle
  have run : ∀ r, submitRequest s r = execute s r := submitRequest_idle opened held silent
  refine ⟨fun coordinating => ?_, fun other => ?_, fun inLeft => ?_, fun other => ?_⟩
  · obtain ⟨maint, alloc, chans, disp, acq, allow, sup, ctl⟩ := afterLeave_stands s
    exact ⟨afterLeave s, congrArg Host.Outcome.next ((run .leave).trans (if_pos coordinating)), maint, alloc, chans, disp, acq,
      allow, sup, ctl, afterLeave_busy s, fun isIdle offered => ⟨afterLeave_active s isIdle offered, afterLeave_away s isIdle offered⟩⟩
  · exact congrArg Host.Outcome.next ((run .leave).trans (if_neg other))
  · exact ⟨_, congrArg Host.Outcome.next ((run .rejoin).trans (if_pos inLeft)), rejoin_joined s inLeft⟩
  · exact congrArg Host.Outcome.next ((run .rejoin).trans (if_neg other))

end Sys2Proof.Machine
end

section
/-! PROOFS. The station alarm and the read requests (sections 9.5 and 11.2). -/
namespace Sys2Proof.Machine

/-! ## The alarm causes (R166, R167) -/

/-- Some channel has a property. -/
theorem anyChan_iff (p : Chan → Bool) : anyChan p = true ↔ ∃ k, p k = true := by
  simp only [anyChan, Bool.or_eq_true]
  constructor
  · rintro (((h | h) | h) | h) <;> exact ⟨_, h⟩
  · rintro ⟨k, h⟩
    cases k <;> simp [h]

/-- A cause is in the set while its condition holds. -/
theorem mem_alarmCauses (s : State) (c : AlarmCause) : c ∈ alarmCauses s ↔ alarmHolds s c = true := by
  unfold alarmCauses
  rw [List.mem_filter]
  cases c <;> simp

/-- The alarm output is active while a cause is in the set and no reset is held (R167). -/
theorem alarmOutput_iff (s : State) : alarmOutput s = true ↔ s.ctl.resetHeld = false ∧ alarmCauses s ≠ [] := by
  simp [alarmOutput]

/-- The nine conditions (R166). -/
theorem alarmCauses_conditions (s : State) :
    let x := alarmCauses s
    (.startup ∈ x ↔ s.sched.coord = none ∨ s.sched.coord = some .joining) ∧
    (.halted ∈ x ↔ s.ctl.step = .halted ∨ s.ctl.step = .configWait) ∧
    (.fault ∈ x ↔ ∃ k, s.fitted k = true ∧ s.isIn k .fault = true) ∧
    (.selector ∈ x ↔ ∃ k, s.fitted k = true ∧ (s.chan k).selector = true) ∧
    (.level ∈ x ↔ s.acq.pub.polder.state ≠ .good ∨ s.acq.pub.sump.state ≠ .good ∨ s.acq.pub.river.state ≠ .good) ∧
    (.current ∈ x ↔ ∃ k, s.fitted k = true ∧ (quadGet s.acq.pub.currents k).state = .lost) ∧
    (.port ∈ x ↔ s.sched.coord = some .coordinating ∧ s.port.state ≠ .active) ∧
    (.mismatch ∈ x ↔ ∃ r ∈ s.view.records, r.mismatch = true ∧
      (r.status = .fresh ∨ r.status = .aged ∨ r.status = .lost)) ∧
    (.blind ∈ x ↔ s.allow.blind = true) := by
  simp only [mem_alarmCauses, alarmHolds, anyChan_iff, Bool.or_eq_true, Bool.and_eq_true, beq_iff_eq, bne_iff_ne, heard,
    List.any_eq_true, or_assoc, and_self]

/-! ## The read requests (R186) -/

/-- A number outside 1 to 4 names no channel. -/
theorem chanOfNum_none {k : Nat} (h : k = 0 ∨ 4 < k) : chanOfNum k = none := by
  rcases h with rfl | high
  · rfl
  · obtain ⟨j, rfl⟩ : ∃ j, k = j + 5 := ⟨k - 5, by omega⟩
    rfl

theorem chanOfNum_chanNum (k : Chan) : chanOfNum (chanNum k) = some k := by cases k <;> rfl

/-- The place of a channel in the rotation list, counted from 1 (R104). -/
theorem listPosition_eq (s : State) (k : Chan) {before after : List Nat} (list : s.disp.rotation = some (before ++ chanNum k :: after))
    (first : chanNum k ∉ before) : listPosition s k = some (before.length + 1) := by
  have place : (before ++ chanNum k :: after).idxOf (chanNum k) = before.length := by
    rw [List.idxOf_append_of_notMem first, List.idxOf_cons_self, Nat.add_zero]
  simp [listPosition, list, place]

/-- The figures of a fitted channel (R186). -/
theorem pumpReport_fitted (s : State) (k : Chan) (fitted : s.fitted k = true) :
    ∃ f, (pumpReport s k).figures = some f ∧ f.mode = (s.chan k).mode ∧ f.selector = (s.chan k).selector ∧
      f.state = (s.chan k).state ∧ f.fault = (quadGet s.sup.watch k).latch ∧ f.reference = (s.chan k).reference ∧
      f.oc = (quadGet s.sup.watch k).overcurrent ∧ f.sl = (quadGet s.sup.watch k).startLimit ∧
      f.ul = (quadGet s.sup.watch k).underload ∧
      (∀ d, s.disp.table.bind (quadGet · k) = some d → f.qmax = some d.qmax ∧ f.qmin = some d.qmin) ∧
      (s.disp.table = none → f.qmax = none ∧ f.qmin = none) ∧
      ∀ x before after, s.disp.rotation = some (before ++ x :: after) → x = chanNum k → x ∉ before →
        f.position = some (before.length + 1) := by
  refine ⟨_, if_pos fitted, rfl, rfl, rfl, rfl, rfl, rfl, rfl, rfl, fun d entry => ?_, fun unformed => ?_, ?_⟩
  · simp only [tableEntry, entry]; exact ⟨rfl, rfl⟩
  · simp only [tableEntry, unformed]; exact ⟨rfl, rfl⟩
  · rintro x before after list rfl first
    exact listPosition_eq s k list first

/-- The configuration that a station has accepted, or the lack of one, shows in FIT (log entry 18). -/
theorem pumpReport_fit (s : State) (k : Chan) :
    (s.ctl.config = none → (pumpReport s k).fit = none) ∧
      (s.ctl.config.isSome = true → (pumpReport s k).fit = some (s.fitted k)) := by
  refine ⟨fun h => by simp [pumpReport, h], fun h => ?_⟩
  obtain ⟨c, config⟩ := Option.isSome_iff_exists.1 h
  simp [pumpReport, config, State.fitted, State.pump, State.cfg]

/-- STATUS shows the start step until the hand-over, and the coordination state from then on (R186). -/
theorem statusReport_state (s : State) :
    (∀ x, s.sched.coord = some x → (statusReport s).state = .coord x) ∧
      (s.sched.coord = none → (statusReport s).state = .step s.ctl.step) :=
  ⟨fun x h => by simp only [statusReport, h], fun h => by simp only [statusReport, h]⟩

/-- Settles O51: each request executes at once, and its answer is the report of its blocks. -/
theorem readRequestsAnswerFromTheStateAlone : Obligations.ReadRequestsAnswerFromTheStateAlone := by
  refine ⟨fun s => ?_, ?_⟩
  · obtain ⟨startup, halted, fault, selector, level, current, port, mismatch, blind⟩ := alarmCauses_conditions s
    exact ⟨startup, halted, fault, selector, level, current, port, mismatch, blind, alarmOutput_iff s⟩
  intro s opened held silent answered
  have run : ∀ r, submitRequest s r = execute s r := submitRequest_idle opened held silent
  have released : s.ctl.resetHeld = false := by
    simp only [State.portOpen, Bool.and_eq_true, Bool.not_eq_true'] at opened
    exact opened.1.1
  refine ⟨?status, fun n low high => ?_, fun n out => ?_, fun k => ?pump, fun k out => ?_, ?line, ?_, ?_⟩
  case status =>
    obtain ⟨coord, step⟩ := statusReport_state s
    refine ⟨statusReport s, congrArg Host.Outcome.next (run .status), coord, step, rfl, rfl, rfl, rfl, ?_, rfl, rfl, rfl, rfl, rfl,
      rfl, rfl, rfl, rfl, rfl, rfl, rfl, rfl, rfl, rfl, rfl, rfl, rfl, rfl⟩
    exact (alarmOutput_iff s).trans (and_iff_right released)
  · exact congrArg Host.Outcome.next ((run (.view n)).trans (if_pos ⟨low, high⟩))
  · have outside : ¬ (1 ≤ n ∧ n ≤ Config.stations) := by
      change ¬ (1 ≤ n ∧ n ≤ 24); omega
    exact congrArg Host.Outcome.next ((run (.view n)).trans (if_neg outside))
  case pump =>
    have answer : execute s (.pump (chanNum k)) = respond s (.pump (pumpReport s k)) := by
      simp only [execute, doPump, chanOfNum_chanNum]
    obtain ⟨unfit, fit⟩ := pumpReport_fit s k
    exact ⟨pumpReport s k, congrArg Host.Outcome.next ((run _).trans answer), rfl, unfit, fit, rfl,
      fun out => if_neg (by simp [out]), pumpReport_fitted s k⟩
  · have answer : execute s (.pump k) = respond s (.err .errRange none) := by
      simp only [execute, doPump, chanOfNum_none out]; rfl
    exact congrArg Host.Outcome.next ((run _).trans answer)
  case line =>
    refine congrArg Host.Outcome.next ((run .line).trans ?_)
    change respond s (.line (lineReport s)) = respond s _
    unfold lineReport selfTestShown
    rfl
  · exact congrArg Host.Outcome.next (run .cause)
  · exact congrArg Host.Outcome.next (run .clearLine)

end Sys2Proof.Machine
end

section
/-! PROOFS. The peer view kept sound: what one record, the shared operations and an acceptance keep of it (sections 3.3, 3.5, 10.4
and 10.6). -/
namespace Sys2Proof.Machine

/-! ## The view under a change of one record -/

/-- A sound view, in a station that has no coordination state before a configuration is accepted (R47, R58): what every
operation of a part in service keeps. -/
structure Viewed (s : State) : Prop where
  sound : ViewSound s
  bare  : s.ctl.config = none → s.sched.coord = none

/-- The view is sound by its records and the configuration. -/
theorem ViewSound.congr {s t : State} (h : ViewSound s) (config : t.ctl.config = s.ctl.config)
    (records : t.view.records = s.view.records) : ViewSound t := by
  have record : ∀ n, t.record n = s.record n := fun n => record_congr s t n records
  have cfg : t.cfg = s.cfg := by simp only [State.cfg, config]
  obtain ⟨length, station, blank, self, peers⟩ := h
  constructor <;> simp only [record, cfg, config, records] <;> assumption

theorem Viewed.congr {s t : State} (h : Viewed s) (config : t.ctl.config = s.ctl.config)
    (records : t.view.records = s.view.records) (coord : s.sched.coord = none → t.sched.coord = none) : Viewed t :=
  ⟨h.sound.congr config records, fun none => coord (h.bare (config ▸ none))⟩

/-- What touches neither controller, nor view, nor scheduler keeps the view. -/
theorem Viewed.stands {s t : State} (h : Viewed s) (ctl : t.ctl = s.ctl) (view : t.view = s.view) (sched : t.sched = s.sched) :
    Viewed t :=
  h.congr (by rw [ctl]) (by rw [view]) (by rw [sched]; exact id)

/-- A station with a coordination state has accepted a configuration. -/
theorem Viewed.config_of_coord {s : State} (h : Viewed s) (coord : s.sched.coord ≠ none) : ∃ c, s.ctl.config = some c :=
  Option.ne_none_iff_exists'.1 fun none => coord (h.bare none)

/-- A record replaced by one that is SELF at the own number alone, and sound elsewhere (R58). -/
theorem ViewSound.setRecord {s : State} (h : ViewSound s) {c : StationConfig} (config : s.ctl.config = some c) {n : Nat}
    (one : 1 ≤ n) (last : n ≤ 24) {r : PeerRecord} (self : r.status = .self ↔ n = c.station)
    (peer : n ≠ c.station → r.Sound (reportPeriod s.cfg)) : ViewSound (s.setRecord n r) where
  length := by simpa [State.setRecord] using h.length
  station := h.station
  blank none := by simp [State.setRecord, config] at none
  self c' m config' first upTo := by
    obtain rfl : c = c' := Option.some.inj (config.symm.trans config')
    rw [setRecord_get s n m r h.length ⟨one, last⟩ first]
    split
    case isTrue same => rw [same]; exact self
    case isFalse => exact h.self c m config first upTo
  peers m first upTo := by
    rw [setRecord_get s n m r h.length ⟨one, last⟩ first]
    split
    case isTrue => exact fun other => peer fun own => other (self.2 own)
    case isFalse => exact h.peers m first upTo

/-- The own number, and the status of a peer. -/
theorem ViewSound.own_range {s : State} (h : ViewSound s) {c : StationConfig} (config : s.ctl.config = some c) :
    s.own = c.station ∧ 1 ≤ s.own ∧ s.own ≤ 24 := by
  have own : s.own = c.station := by simp [State.own, State.cfg, config]
  rw [own]
  exact ⟨rfl, h.station c config⟩

/-- A report in the own record (R64). -/
theorem ViewSound.setOwnReport {s : State} (h : ViewSound s) {c : StationConfig} (config : s.ctl.config = some c)
    (p : StagePayload) : ViewSound (s.setRecord s.own { s.record s.own with report := some p }) := by
  obtain ⟨own, one, last⟩ := h.own_range config
  exact h.setRecord config one last (h.self c s.own config one last) fun other => absurd own other

/-! ## Records as they are received and aged (R59 to R63) -/

/-- A level as stored is invalid or in its range (R59). -/
theorem normalLevel_stored (z : Int) : storedLevel (normalLevel z) := by
  unfold normalLevel
  split
  case isTrue range => exact .inr range
  case isFalse => exact .inl rfl

/-- A report is stored as normalised (R59). -/
theorem normalise_stored (p : StagePayload) : (normalise p).Stored where
  polder := normalLevel_stored _
  river := normalLevel_stored _
  urgency := Nat.min_le_right _ _
  cav := Nat.min_le_right _ _
  demand := Nat.min_le_right _ _
  eAuto := Nat.min_le_right _ _
  eHand := Nat.min_le_right _ _

/-- A record without an age is FRESH (R63). -/
theorem statusByAge_zero (period : Nat) : statusByAge period 0 = .fresh := by simp [statusByAge]

/-- An age gives FRESH, AGED or LOST (R63). -/
theorem statusByAge_heardOrLost (period age : Nat) :
    statusByAge period age = .fresh ∨ statusByAge period age = .aged ∨ statusByAge period age = .lost := by
  unfold statusByAge; repeat' split
  all_goals simp

/-- A good STAGE leaves a sound record (R59, R60). -/
theorem acceptStage_sound {period : Nat} {r : PeerRecord} (h : r.Sound period) (digest : Nat) {p : StagePayload}
    (number : p.number ≤ 255) : (acceptStage digest p r).Sound period where
  missed := by
    unfold acceptStage; dsimp only
    split
    · exact h.missed
    · exact Nat.min_le_right _ _
  last := number
  age := Nat.zero_le _
  report q stored := by cases stored; exact normalise_stored p
  status _ := ⟨rfl, (statusByAge_zero period).symm⟩
  pending q starts := by
    unfold acceptStage at starts; dsimp only at starts
    split at starts
    · simp at starts
    · exact h.pending q starts

/-- A good QUIT leaves a sound record (R61). -/
theorem acceptQuit_sound {period : Nat} {r : PeerRecord} (h : r.Sound period) {p : QuitPayload} (number : p.number ≤ 255) :
    (acceptQuit p r).Sound period where
  missed := by
    unfold acceptQuit; dsimp only
    split
    · exact Nat.min_le_right _ _
    · exact h.missed
  last := number
  age := h.age
  report := h.report
  status aged := by simp [acceptQuit] at aged
  pending q starts := by simp [acceptQuit] at starts

/-- A pending start of an urgency in range leaves a sound record (R62). -/
theorem PeerRecord.Sound.setPending {period : Nat} {r : PeerRecord} (h : r.Sound period) {q : PendingStart}
    (urgency : q.urgency ≤ 1000) : PeerRecord.Sound period { r with pending := some q } :=
  ⟨h.missed, h.last, h.age, h.report, h.status, fun p starts => by cases starts; exact urgency⟩

/-- The records that an ageing expiry ages (R63). -/
def PeerRecord.Ages (r : PeerRecord) : Prop := r.status = .fresh ∨ r.status = .aged ∨ r.status = .lost

/-- An ageing expiry of a record that ages (R63). -/
theorem ageRecord_ages (period : Nat) {r : PeerRecord} (h : r.Ages) :
    (ageRecord period r).age = min (r.age + 1) 65535 ∧
      (ageRecord period r).status = statusByAge period (min (r.age + 1) 65535) := by
  have aged : (heard r || r.status == .lost) = true := by rcases h with h | h | h <;> simp [heard, h]
  simp [ageRecord, aged, satInc, Config.counterMax]

/-- Any other record keeps age and status (R63). -/
theorem ageRecord_stands (period : Nat) {r : PeerRecord} (h : ¬ r.Ages) :
    (ageRecord period r).age = r.age ∧ (ageRecord period r).status = r.status := by
  have aged : (heard r || r.status == .lost) = false := by
    simp only [PeerRecord.Ages, not_or] at h
    simp [heard, h]
  simp [ageRecord, aged]

/-- The countdown of a pending start at an ageing expiry (R62). -/
theorem ageRecord_pending (period : Nat) (r : PeerRecord) :
    (∀ p, r.pending = some p → 1 < p.remaining →
      (ageRecord period r).pending = some { p with remaining := p.remaining - 1 }) ∧
    (∀ p, r.pending = some p → p.remaining ≤ 1 → (ageRecord period r).pending = none) ∧
    (r.pending = none → (ageRecord period r).pending = none) := by
  refine ⟨fun p starts more => ?_, fun p starts done => ?_, fun none => ?_⟩
  · simp [ageRecord, starts, more.not_ge]
  · simp [ageRecord, starts, done]
  · simp [ageRecord, none]

/-- An ageing expiry makes no record SELF, and takes no SELF away (R63). -/
theorem ageRecord_self (period : Nat) (r : PeerRecord) : (ageRecord period r).status = .self ↔ r.status = .self := by
  by_cases ages : r.Ages
  · rw [(ageRecord_ages period ages).2]
    have left : statusByAge period (min (r.age + 1) 65535) ≠ .self := fun self => by
      have := statusByAge_heardOrLost period (min (r.age + 1) 65535)
      simp [self] at this
    have right : r.status ≠ .self := fun self => by simp [PeerRecord.Ages, self] at ages
    exact iff_of_false left right
  · rw [(ageRecord_stands period ages).2]

/-- An ageing expiry leaves a sound record (R62, R63). -/
theorem ageRecord_sound {period : Nat} {r : PeerRecord} (h : r.Sound period) : (ageRecord period r).Sound period where
  missed := h.missed
  last := h.last
  age := by
    by_cases ages : r.Ages
    · rw [(ageRecord_ages period ages).1]; exact Nat.min_le_right _ _
    · rw [(ageRecord_stands period ages).1]; exact h.age
  report := h.report
  status aged := by
    by_cases ages : r.Ages
    · obtain ⟨age, status⟩ := ageRecord_ages period ages
      exact ⟨(h.status ages).1, by rw [status, age]⟩
    · rw [(ageRecord_stands period ages).2] at aged
      exact absurd aged ages
  pending q starts := by
    obtain ⟨more, done, none⟩ := ageRecord_pending period r
    cases before : r.pending with
    | none => simp [none before] at starts
    | some p =>
      by_cases left : p.remaining ≤ 1
      · simp [done p before left] at starts
      · rw [more p before (by omega)] at starts
        cases starts
        exact h.pending p before

/-- The record of a station after an ageing expiry of all of them. -/
theorem aged_record (s : State) (period n : Nat) (one : 1 ≤ n) (last : n ≤ s.view.records.length) :
    (s.setView { s.view with records := s.view.records.map (ageRecord period) }).record n = ageRecord period (s.record n) := by
  have inside : n - 1 < s.view.records.length := by omega
  simp [State.record, inside]

/-- An ageing expiry keeps the view (R63). -/
theorem ageing_viewSound {s : State} (h : ViewSound s) :
    ViewSound (s.setView { s.view with records := s.view.records.map (ageRecord (reportPeriod s.cfg)) }) := by
  have record := fun n one (last : n ≤ 24) => aged_record s (reportPeriod s.cfg) n one (by rw [h.length]; exact last)
  constructor
  case length => simpa using h.length
  case station => exact h.station
  case blank =>
    intro none
    have absent : ageRecord (reportPeriod s.cfg) .absent = .absent := rfl
    simp [h.blank none, absent]
  case self =>
    intro c n config one last
    rw [record n one last, ageRecord_self]
    exact h.self c n config one last
  case peers =>
    intro n one last other
    rw [record n one last] at other ⊢
    exact ageRecord_sound (h.peers n one last fun self => other ((ageRecord_self _ _).2 self))

/-! ## The acceptance (R58, R181) -/

/-- An image that passes validation names a station from 1 to 24 (R177). -/
theorem validate_station (strap : Nat) (img : List Byte) (h : validate strap img = none) :
    1 ≤ (configOf img).station ∧ (configOf img).station ≤ 24 := by
  have check := (firstFailure_none_iff _).1 h (_, .station) (List.mem_of_getElem? (i := 2) rfl)
  simp only [Bool.and_eq_true, decide_eq_true_eq, beq_iff_eq, Config.stations] at check
  obtain ⟨⟨one, last⟩, same⟩ := check
  rw [show (configOf img).station = strap from same.symm]
  exact ⟨one, of_decide_eq_true last⟩

/-- The records after an acceptance: the own one is SELF, the others stand (R58). -/
theorem acceptConfig_record (s : State) (c : StationConfig) (length : s.view.records.length = 24)
    (station : 1 ≤ c.station ∧ c.station ≤ 24) {n : Nat} (one : 1 ≤ n) :
    (acceptConfig s c).record n = if n = c.station then { s.record c.station with status := .self } else s.record n := by
  have accepted : (acceptConfig s c).view.records =
      (s.setRecord c.station { s.record c.station with status := .self }).view.records := rfl
  rw [record_congr _ _ n accepted, setRecord_get s c.station n _ length station one]

/-- An acceptance makes a view that was blank sound under the configuration (R58). -/
theorem acceptConfig_viewSound {s : State} (h : ViewSound s) (bare : s.ctl.config = none) (c : StationConfig)
    (station : 1 ≤ c.station ∧ c.station ≤ 24) : ViewSound (acceptConfig s c) := by
  have absent : ∀ n, s.record n = .absent := fun n => by
    rw [State.record, h.blank bare, List.getD_eq_getElem?_getD]
    exact List.getElem?_getD_replicate_default_eq PeerRecord.absent 24 (n - 1)
  have record := fun n => acceptConfig_record s c h.length station (n := n)
  have config : (acceptConfig s c).ctl.config = some c := rfl
  simp only [absent] at record
  constructor
  case length =>
    have accepted : (acceptConfig s c).view.records =
        s.view.records.set (c.station - 1) { s.record c.station with status := .self } := rfl
    simpa [accepted] using h.length
  case station => intro c' same; cases config.symm.trans same; exact station
  case blank => simp [config]
  case self =>
    intro c' n same one _
    cases config.symm.trans same
    rw [record n one]
    split <;> simp_all [PeerRecord.absent]
  case peers =>
    intro n one _
    rw [record n one]
    split
    · exact fun other => absurd rfl other
    · exact fun _ => by constructor <;> simp [PeerRecord.absent]

/-- The judgement of an image before any acceptance keeps the view (R177, R181). -/
theorem judgeImage_viewSound {s : State} (h : ViewSound s) (bare : s.ctl.config = none) (img : List Byte) :
    ViewSound (judgeImage s img) := by
  unfold judgeImage
  split
  case h_1 => exact h.congr rfl rfl
  case h_2 passed => exact acceptConfig_viewSound h bare _ (validate_station _ _ passed)

end Sys2Proof.Machine
end

section
/-! PROOFS. The peer view kept sound, concluded: what the shared operations keep, each command, and every step (O58). -/
namespace Sys2Proof.Machine

/-! ## Reports and the end of an event (R42, R51, R52, R55) -/

theorem composeStage_viewed {s : State} (h : Viewed s) (coord : s.sched.coord ≠ none) : Viewed (composeStage s) := by
  obtain ⟨c, config⟩ := h.config_of_coord coord
  refine ⟨(h.sound.setOwnReport config (stagePayload s)).congr (by simp [State.setRecord]) ?_, fun none => ?_⟩
  · rw [(composeStage_composed s).view]; rfl
  · simp [config] at none

theorem coord_ne_none_of_reporting {s : State} (h : s.reporting = true) : s.sched.coord ≠ none :=
  Option.isSome_iff_ne_none.1 (coord_of_reporting h)

theorem promptCause_viewed {s : State} (h : Viewed s) : Viewed (promptCause s) := by
  unfold promptCause
  split
  case isTrue reporting =>
    split
    · exact composeStage_viewed h (coord_ne_none_of_reporting reporting)
    · exact h.congr rfl rfl id
  case isFalse => exact h

theorem promptCauses_viewed {s : State} (h : Viewed s) (n : Nat) : Viewed (promptCauses n s) := by
  induction n generalizing s with
  | zero => exact h
  | succ n ih => exact ih (promptCause_viewed h)

theorem stageLost_viewed {s : State} (h : Viewed s) : Viewed (stageLost s) := by
  unfold stageLost
  split
  case isTrue pending =>
    simp only [Bool.and_eq_true] at pending
    exact composeStage_viewed h (coord_ne_none_of_reporting pending.1.1)
  case isFalse => exact h

theorem quitEnded_viewed {s : State} (h : Viewed s) : Viewed (quitEnded s) :=
  h.congr (by simp) (by simp) fun none => by simp [quitEnded, none]

theorem quitTest_viewed {s : State} (h : Viewed s) : Viewed (quitTest s) :=
  h.congr (by simp) (by simp) fun none => by rw [quitTest_elsewhere s (by simp [none])]; exact none

theorem settle_viewed {s : State} (h : Viewed s) (s0 : State) (n : Nat) : Viewed (settle s0 n s) := by
  have formed : Viewed (if speedTargetDue s0 (reform s) then formNt (reform s) else reform s) := by
    split <;> exact h.stands (by simp) (by simp) (by simp)
  simp only [settle]
  generalize (if speedTargetDue s0 (reform s) then formNt (reform s) else reform s) = u at formed
  split
  · exact quitTest_viewed (promptCauses_viewed formed _)
  · exact promptCauses_viewed formed _

/-! ## Latches, withdrawals and departures -/

theorem latchesArrive_viewed {s : State} (h : Viewed s) : Viewed (latchesArrive s) := by
  have arrived : Viewed (forChans latchArrives s) :=
    forChans_keeps (fun u k hu => Viewed.stands hu (by simp) (by simp) (by simp)) s h
  unfold latchesArrive; split
  · exact h
  · exact settle_viewed (arrived.stands (by simp) (by simp) (by simp)) _ _

theorem clearFaultLatches_viewed {s : State} (h : Viewed s) : Viewed (clearFaultLatches s) := by
  have leave : ∀ u k, Viewed u → Viewed (if u.isIn k .fault then placeByMode u k else u) := by
    intro u k hu
    split
    · exact hu.stands (by simp) (by simp) (by simp)
    · exact hu
  have cleared : Viewed (s.setSup { s.sup with watch := ⟨.reset, .reset, .reset, .reset⟩ }) := h.stands rfl rfl rfl
  unfold clearFaultLatches
  apply latchesArrive_viewed
  split
  · exact settle_viewed (forChans_keeps (f := fun u k => if u.isIn k .fault then placeByMode u k else u) leave _ cleared) _ _
  · exact cleared

theorem withdrawNotice_viewed {s : State} (h : Viewed s) : Viewed (withdrawNotice s) :=
  h.stands (by simp) (by simp) (by simp)

theorem reportDiscarded_viewed {s : State} (h : Viewed s) (onLine : Bool) (f : Frame) :
    Viewed (reportDiscarded s onLine f) := by
  unfold reportDiscarded
  split
  · exact h.stands (by simp) (by simp) (by simp)
  · split
    · exact stageLost_viewed h
    · exact h
  · exact quitEnded_viewed h

theorem reportDiscardedIf_viewed {s : State} (h : Viewed s) (onLine : Bool) (f : Option Frame) :
    Viewed (reportDiscardedIf s onLine f) := by
  unfold reportDiscardedIf
  split
  · exact reportDiscarded_viewed h onLine _
  · exact h

theorem leaveActive_viewed {s : State} (h : Viewed s) (x : PortState) : Viewed (leaveActive s x) := by
  have emptied : Viewed (s.setPort { s.port with state := x, queue := .empty, tx := none }) := h.stands rfl rfl rfl
  exact reportDiscardedIf_viewed (reportDiscardedIf_viewed (reportDiscardedIf_viewed
    (reportDiscardedIf_viewed emptied _ _) _ _) _ _) _ _

theorem enterLineFault_viewed {s : State} (h : Viewed s) : Viewed (enterLineFault s) := by
  have ported : ∀ p, Viewed (s.setPort p) := fun p => h.stands rfl rfl rfl
  exact leaveActive_viewed (ported _) _

theorem enterMute_viewed {s : State} (h : Viewed s) : Viewed (enterMute s) := by
  have ported : ∀ p, Viewed (s.setPort p) := fun p => h.stands rfl rfl rfl
  unfold enterMute; split
  · exact h
  · exact leaveActive_viewed (ported _) _

theorem muteOrder_viewed {s : State} (h : Viewed s) : Viewed (muteOrder s) := by
  unfold muteOrder; split
  case h_1 | h_2 => exact h.stands rfl rfl rfl
  case h_3 | h_4 | h_5 => exact enterMute_viewed h
  case h_6 | h_7 => exact h

/-! ## Reception (R60 to R62) -/

/-- The sequence number of a good frame is a byte (R189). -/
def Frame.Numbered : Frame → Prop
  | .stage p => p.number ≤ 255
  | .start _ => True
  | .quit p => p.number ≤ 255

theorem u8At_le (l : List Byte) (i : Nat) : u8At l i ≤ 255 := Nat.le_of_lt_succ (l.getD i 0#8).isLt

theorem readPayload_numbered (d : List Byte) : (readPayload d).Numbered := by
  unfold readPayload
  repeat' split
  · exact u8At_le d 4
  · trivial
  · exact u8At_le d 5

theorem checkFrame_numbered {f : RxFrame} {n : Nat} {g : Frame} (good : checkFrame false f = .good n g) : g.Numbered := by
  obtain ⟨-, -, -, rfl, -⟩ := checkFrame_good good
  exact readPayload_numbered _

/-- A replaced record of a peer. -/
theorem Viewed.setPeer {s : State} (h : Viewed s) {c : StationConfig} (config : s.ctl.config = some c) {n : Nat}
    (one : 1 ≤ n) (last : n ≤ 24) (peer : n ≠ s.own) {r : PeerRecord} (notSelf : r.status ≠ .self)
    (sound : r.Sound (reportPeriod s.cfg)) : Viewed (s.setRecord n r) := by
  rw [(h.sound.own_range config).1] at peer
  exact ⟨h.sound.setRecord config one last (iff_of_false notSelf peer) fun _ => sound, h.bare⟩

/-- The record of a peer. -/
theorem Viewed.peer {s : State} (h : Viewed s) {c : StationConfig} (config : s.ctl.config = some c) {n : Nat}
    (one : 1 ≤ n) (last : n ≤ 24) (peer : n ≠ s.own) :
    (s.record n).status ≠ .self ∧ (s.record n).Sound (reportPeriod s.cfg) := by
  rw [(h.sound.own_range config).1] at peer
  have notSelf : (s.record n).status ≠ .self := fun self => peer ((h.sound.self c n config one last).1 self)
  exact ⟨notSelf, h.sound.peers n one last notSelf⟩

/-- Ranking a peer's START marks it yielded, or withdraws the own notice (R125, R126). -/
theorem rankStart_viewed {s : State} (h : Viewed s) {c : StationConfig} (config : s.ctl.config = some c) {n : Nat}
    (one : 1 ≤ n) (last : n ≤ 24) (peer : n ≠ s.own) : Viewed (rankStart s n) := by
  obtain ⟨notSelf, sound⟩ := h.peer config one last peer
  unfold rankStart
  split
  case h_1 own p _ starts =>
    split
    · exact settle_viewed (withdrawNotice_viewed h) _ _
    · exact h.setPeer config one last peer notSelf (sound.setPending (sound.pending p starts))
  case h_2 => exact h

theorem deliver_viewed {s : State} (h : Viewed s) {c : StationConfig} (config : s.ctl.config = some c) {n : Nat}
    (one : 1 ≤ n) (last : n ≤ 24) (peer : n ≠ s.own) {g : Frame} (numbered : g.Numbered) : Viewed (deliver s n g) := by
  obtain ⟨notSelf, sound⟩ := h.peer config one last peer
  cases g with
  | stage p => exact h.setPeer config one last peer (by simp [acceptStage]) (acceptStage_sound sound _ numbered)
  | quit p => exact h.setPeer config one last peer (by simp [acceptQuit]) (acceptQuit_sound sound numbered)
  | start p =>
    have pended := h.setPeer (r := { s.record n with pending := some (pendingOf s.cfg p) }) config one last peer notSelf
      (sound.setPending (Nat.min_le_right _ _))
    exact rankStart_viewed pended config one last peer

theorem lossesEnd_viewed {s : State} (h : Viewed s) (fault : Bool) : Viewed (lossesEnd fault s) := by
  unfold lossesEnd; split
  · exact enterLineFault_viewed h
  · exact h

/-- From the hand-over on a configuration is accepted (R182). -/
theorem StartSequence.config_of_handedOver {s : State} (h : StartSequence s) (step : s.ctl.step = .handedOver) :
    ∃ c, s.ctl.config = some c :=
  Option.isSome_iff_exists.1 (h.after step).2.2

theorem receiveFrame_viewed {s : State} (h : Viewed s) (sequence : StartSequence s) (f : RxFrame) :
    Viewed (receiveFrame s f) := by
  by_cases receives : s.receives = true
  · obtain ⟨c, config⟩ := sequence.config_of_handedOver (sequence.handedOver_of_receives receives)
    cases checked : checkFrame false f with
    | bad e =>
      rw [receiveFrame_bad receives checked]
      exact lossesEnd_viewed (h.stands (by simp) (by simp) (by simp)) _
    | good n g =>
      obtain ⟨one, last, -⟩ := checkFrame_good checked
      have heard : Viewed (s.setPort (s.port.heard n)) := h.stands rfl rfl rfl
      rw [receiveFrame_good receives checked]
      split
      · exact enterMute_viewed heard
      case isFalse peer => exact lossesEnd_viewed (deliver_viewed heard config one last peer (checkFrame_numbered checked)) _
  · simpa [receiveFrame, receives] using h

/-! ## The entry to JOINING -/

/-- An entry to JOINING reports nothing, so it leaves the view (R48). -/
theorem enterJoining_viewed {s : State} (h : Viewed s) (accepted : s.ctl.config ≠ none) : Viewed (enterJoining s) := by
  obtain ⟨-, -, -, view, -, -⟩ := enterJoining_blocks s
  have kept : (enterJoining s).view = s.view := view.trans (by simp [joining])
  exact ⟨h.sound.congr (by simp) (by rw [kept]), fun none => absurd (by simpa using none) accepted⟩

/-! ## The commands -/

/-- A sound view at a start sequence is what the operations keep. -/
theorem StartSequence.viewed {s : State} (h : StartSequence s) (view : ViewSound s) : Viewed s := by
  refine ⟨view, fun bare => ?_⟩
  by_contra coord
  obtain ⟨c, config⟩ := h.config_of_handedOver (h.coord.1 (Option.isSome_iff_ne_none.2 coord))
  simp [bare] at config

/-- Every block at its reset value under a controller without a configuration. -/
theorem resetBlocks_viewSound (s : State) (ctl : Controller) (rotation : Option (List Nat)) (bare : ctl.config = none) :
    ViewSound (resetBlocks s ctl rotation) := by
  obtain ⟨-, -, -, reset, -, -⟩ := theInvariantsHoldAtReset
  exact reset.congr bare rfl

/-- The straps are sampled without a configuration (R175). -/
theorem endClockstart_viewed {s : State} (h : Viewed s) (straps : Straps) : Viewed (endClockstart s straps) := by
  rw [endClockstart, enterConfigLoad_eq]
  refine h.congr ?_ rfl id
  dsimp only [State.setCtl_ctl]
  split <;> rfl

/-- What the end of the read does with a refused image leaves the view (R178). -/
theorem imageRefused_viewSound {s : State} (h : ViewSound s) : ViewSound (
    if s.ctl.step = .configLoad then
      s.setCtl { s.ctl with step := if sourceWaits (s.ctl.source.getD 3) then .configWait else .halted }
    else s) := by
  split
  · exact h.congr rfl rfl
  · exact h

theorem execSerialMemoryReadEnd_view {s : State} (h : ViewSound s) (sequence : StartSequence s) (dataIn : List Bool) :
    Leads ViewSound (execSerialMemoryReadEnd dataIn s) := by
  refine ⟨_, by unfold execSerialMemoryReadEnd; rfl, ?_⟩
  split
  case isFalse => exact h
  case isTrue step =>
    have bare := (sequence.before (by simp [step]) (by simp [step])).2
    generalize clockedIn dataIn = img
    exact imageRefused_viewSound (judgeImage_viewSound (s := s.setCtl { s.ctl with image := some img }) (h.congr rfl rfl) bare img)

theorem execSelftestEnd_viewed {s : State} (h : Viewed s) (sequence : StartSequence s) (bytes : List RxByte) :
    Leads Viewed (execSelftestEnd bytes s) := by
  refine ⟨_, rfl, ?_⟩
  split
  case isFalse => exact h
  case isTrue testing =>
    have accepted : s.ctl.config ≠ none := by
      intro bare
      by_cases test : s.ctl.step = .selftest
      · have := (sequence.testing test).2; simp [bare] at this
      by_cases handed : s.ctl.step = .handedOver
      · have := (sequence.after handed).2.2; simp [bare] at this
      · have := (sequence.before test handed).1; simp [testing] at this
    have handOver : ∀ x record, Viewed (handOver s x record) := fun x record =>
      enterJoining_viewed (s := handing s x record) (h.congr rfl rfl id) accepted
    split
    · exact h
    · exact handOver _ _
    · exact handOver _ _

theorem execScanTimerExpiry_viewed {s : State} (h : Viewed s) (contacts : Quad Contacts) :
    Leads Viewed (execScanTimerExpiry contacts s) := by
  refine ⟨_, rfl, latchesArrive_viewed ?_⟩
  have sampled : Viewed (sampled contacts s) := h.stands rfl rfl rfl
  have taken : Viewed (modesTaken contacts s) := by
    have frame := modesTaken_modeFrame contacts s
    exact sampled.stands frame.ctl frame.view frame.sched
  split
  case isFalse => exact h
  case isTrue =>
    dsimp only
    split
    · exact settle_viewed taken _ _
    · exact sampled

theorem followRiver_viewed {s : State} (h : Viewed s) : Viewed (followRiver s) := by
  refine h.congr (by simp) (by simp) fun none => ?_
  unfold followRiver
  split <;> simp [none]

theorem execScanCompletion_viewed {s : State} (h : Viewed s) : Leads Viewed (execScanCompletion s) := by
  refine ⟨_, rfl, ?_⟩
  have published : Viewed (publish s) := h.stands (by simp) (by simp) (by simp)
  split
  case isFalse => exact h
  case isTrue =>
    dsimp only
    split
    case h_1 => exact published
    case h_2 =>
      refine settle_viewed (followRiver_viewed (forChans_keeps (fun u k hu => Viewed.stands hu (by simp) (by simp) (by simp)) _
        (Viewed.stands (s := publish s) published ?_ ?_ ?_))) _ _
      all_goals split <;> simp

theorem execFaultResetSample_viewed {s : State} (h : Viewed s) (active : Bool) :
    Leads Viewed (execFaultResetSample active s) := by
  refine ⟨_, rfl, ?_⟩
  split
  · exact h
  · dsimp only
    split
    · exact clearFaultLatches_viewed (h.stands rfl rfl rfl)
    · exact h.stands rfl rfl rfl

theorem execSlotStart_viewed {s : State} (h : Viewed s) (idle : Nat) (dominant : Bool) :
    Leads Viewed (execSlotStart idle dominant s) := by
  refine ⟨_, rfl, ?_⟩
  split
  case isFalse => exact h
  case isTrue =>
    split
    · exact h
    · dsimp only
      split
      · exact h.stands rfl rfl rfl
      · unfold beginFrame
        split <;> exact h.stands (by simp) (by simp) (by simp)

theorem execContentionLoss_viewed {s : State} (h : Viewed s) : Leads Viewed (execContentionLoss s) := by
  have ported : ∀ p, Viewed (s.setPort p) := fun p => h.stands rfl rfl rfl
  refine ⟨_, rfl, ?_⟩
  split
  · exact h
  · dsimp only
    split
    · exact reportDiscarded_viewed (ported _) _ _
    · unfold reportReturned
      split
      · exact h.stands (by simp) (by simp) (by simp)
      · exact stageLost_viewed (ported _)
      · exact ported _

theorem execTransmissionComplete_viewed {s : State} (h : Viewed s) : Leads Viewed (execTransmissionComplete s) := by
  refine ⟨_, rfl, ?_⟩
  split
  · exact h
  · dsimp only
    split
    · exact h.stands (by simp) (by simp) (by simp)
    · exact h.congr rfl rfl id
    · exact quitEnded_viewed (h.stands rfl rfl rfl)

theorem execListenTimerExpiry_viewed {s : State} (h : Viewed s) : Leads Viewed (execListenTimerExpiry s) := by
  refine ⟨_, rfl, ?_⟩
  split
  case isFalse => exact h
  case isTrue due =>
    have ready := listened_listened s due.1
    have listening : Viewed (listened s) := h.stands ready.stands.2.2.2.2 ready.blocks.2.1 ready.blocks.1
    have coord : (listened s).sched.coord ≠ none := by simp [ready.blocks.1, due.1]
    have composed := composeStage_viewed listening coord
    obtain ⟨c, config⟩ := composed.config_of_coord (by simpa using coord)
    exact ⟨composed.sound.congr rfl rfl, fun none => absurd (config.symm.trans none) (by simp)⟩

theorem execSpacingTimerExpiry_viewed {s : State} (h : Viewed s) : Leads Viewed (execSpacingTimerExpiry s) := by
  have stopped : Viewed (s.setSched { s.sched with spacingTimer := none }) := h.congr rfl rfl id
  refine ⟨_, rfl, ?_⟩
  split
  case isFalse => exact h
  case isTrue =>
    dsimp only
    split
    case isTrue due =>
      simp only [Bool.and_eq_true] at due
      exact composeStage_viewed stopped (coord_ne_none_of_reporting due.1)
    case isFalse => exact stopped

theorem decide4_viewed {s : State} (h : Viewed s) : Viewed (decide4 s) := by
  unfold decide4
  dsimp only
  repeat' split
  case isTrue =>
    exact withdrawNotice_viewed (forChans_keeps (fun u k hu => Viewed.stands hu (by simp) (by simp) (by simp)) s h)
  all_goals first
    | exact h
    | exact h.stands (by simp) (by simp) (by simp)

theorem execAllocationCompletion_viewed {s : State} (h : Viewed s) : Leads Viewed (execAllocationCompletion s) := by
  refine ⟨_, rfl, latchesArrive_viewed ?_⟩
  split
  case h_1 => exact h
  case h_2 sn _ =>
    have published : Viewed (publishAllocation s sn) := h.stands rfl rfl rfl
    dsimp only
    split
    · have decided := settle_viewed (decide4_viewed published) (publishAllocation s sn) 0
      exact decided.stands (by simp [dispatchAct]) (by simp [dispatchAct]) (by simp [dispatchAct])
    · exact published

theorem execHoldOffExpiry_viewed {s : State} (h : Viewed s) : Leads Viewed (execHoldOffExpiry s) := by
  refine ⟨_, rfl, ?_⟩
  split
  · split
    · refine settle_viewed ?_ _ _
      split <;> exact h.stands (by simp) (by simp) (by simp)
    · exact h
  · exact h

theorem slewChan_viewed (s : State) (k : Chan) (h : Viewed s) : Viewed (slewChan s k) := by
  have set : ∀ c, Viewed (s.setChan k c) := fun c => h.stands rfl rfl rfl
  unfold slewChan
  dsimp only
  split
  · split
    · exact set _
    · exact h
  · exact set _
  · split
    · exact h.stands (by simp) (by simp) (by simp)
    · exact set _
  · exact h

theorem execSlewTimerExpiry_viewed {s : State} (h : Viewed s) : Leads Viewed (execSlewTimerExpiry s) := by
  refine ⟨_, rfl, latchesArrive_viewed ?_⟩
  split
  · exact settle_viewed (forChans_keeps slewChan_viewed _ h) _ _
  · exact h

theorem execStartWindowExpiry_viewed {s : State} (h : Viewed s) (k : Chan) : Leads Viewed (execStartWindowExpiry k s) := by
  refine ⟨_, rfl, latchesArrive_viewed ?_⟩
  split
  · split <;> exact settle_viewed (h.stands (by simp) (by simp) (by simp)) _ _
  · exact h

/-! ## The maintenance port -/

theorem doLeave_viewed {s : State} (h : Viewed s) : Viewed (doLeave s) := by
  unfold doLeave
  split
  case isFalse => exact h.stands rfl rfl rfl
  case isTrue coordinating =>
    have accepted : Viewed (told s) := h.congr rfl rfl fun none => by simp [coordinating] at none
    exact (quitTest_viewed (promptCause_viewed accepted)).stands rfl rfl rfl

theorem doRejoin_viewed {s : State} (h : Viewed s) : Viewed (doRejoin s) := by
  unfold doRejoin
  split
  case isFalse => exact h.stands rfl rfl rfl
  case isTrue left =>
    obtain ⟨c, config⟩ := h.config_of_coord (by simp [left])
    have cleared : Viewed (s.setSched { s.sched with riverSide := none }) := h.congr rfl rfl id
    have listening : Viewed (recalled s) := by
      unfold recalled orderListen; split
      · exact leaveActive_viewed cleared _
      · exact cleared
    have ctl := (recalled_recalled s left).stands.1
    exact (enterJoining_viewed listening (by simp [ctl, config])).stands rfl rfl rfl

/-- A judged LOAD END, and any other request of CONFIG_WAIT (R179, R188). -/
theorem doLoadEnd_view {s : State} (h : ViewSound s) (sequence : StartSequence s) : ViewSound (doLoadEnd s) := by
  unfold doLoadEnd
  split
  case isTrue => exact h.congr rfl rfl
  case isFalse step =>
    have waiting : s.ctl.step = .configWait := not_not.1 step
    have bare := (sequence.before (by simp [waiting]) (by simp [waiting])).2
    have judged := fun img => judgeImage_viewSound h bare img
    dsimp only
    split <;> exact (judged _).congr rfl rfl

/-- An executed request (R186 to R188). -/
theorem execute_view {s : State} (h : ViewSound s) (sequence : StartSequence s) (r : Request) : ViewSound (execute s r) := by
  have viewed := sequence.viewed h
  cases r with
  | view n =>
    unfold execute doView; dsimp only
    split <;> exact h.congr rfl rfl
  | pump k =>
    unfold execute doPump; dsimp only
    split <;> exact h.congr rfl rfl
  | clearFaults => exact (clearFaultLatches_viewed viewed).sound.congr rfl rfl
  | leave => exact (doLeave_viewed viewed).sound
  | rejoin => exact (doRejoin_viewed viewed).sound
  | load offset bytes =>
    unfold execute doLoad; dsimp only
    repeat' split
    all_goals exact h.congr rfl rfl
  | loadEnd => exact doLoadEnd_view h sequence
  | clearLine | status | line | cause => exact h.congr rfl rfl

theorem executeLine_view {s : State} (h : ViewSound s) (sequence : StartSequence s) (l : CompletedLine) :
    ViewSound (executeLine s l) := by
  unfold executeLine
  split
  · exact h.congr rfl rfl
  · exact execute_view h sequence _

theorem submitLine_view {s : State} (h : ViewSound s) (sequence : StartSequence s) (l : CompletedLine) :
    ViewSound (submitLine s l) := by
  unfold submitLine
  split
  · exact h.congr rfl rfl
  · exact executeLine_view h sequence l

theorem submitRequest_view {s : State} (h : ViewSound s) (sequence : StartSequence s) (r : Request) :
    Leads ViewSound (.next (submitRequest s r)) := by
  refine ⟨_, rfl, ?_⟩
  unfold submitRequest
  split
  · exact submitLine_view h sequence _
  · exact h

theorem execCharacterReceived_view {s : State} (h : ViewSound s) (sequence : StartSequence s) (c : Byte) (stopLow : Bool) :
    Leads ViewSound (execCharacterReceived c stopLow s) := by
  have kept : ∀ x : Maintenance, ViewSound (s.setMaint x) ∧ StartSequence (s.setMaint x) := fun x =>
    ⟨h.congr rfl rfl, setMaint_startSequence sequence x⟩
  refine ⟨_, rfl, ?_⟩
  split
  case isFalse => exact h
  case isTrue =>
    have marked : ∃ x, (if stopLow then markBad s else s) = s.setMaint x := by
      split
      · exact ⟨_, rfl⟩
      · exact ⟨s.maint, rfl⟩
    obtain ⟨x, marked⟩ := marked
    rw [marked]
    dsimp only
    split
    · unfold completeLine
      dsimp only
      split
      · exact (kept _).1
      · exact submitLine_view (kept _).1 (kept _).2 _
    · split
      · exact (kept x).1
      · unfold appendChar
        split <;> exact (kept _).1

theorem execResponseEnd_view {s : State} (h : ViewSound s) (sequence : StartSequence s) :
    Leads ViewSound (execResponseEnd s) := by
  refine ⟨_, rfl, ?_⟩
  split
  case isFalse => exact h
  case isTrue =>
    dsimp only
    split
    · refine executeLine_view ?_ (setMaint_startSequence sequence _) _
      exact h.congr rfl rfl
    · exact h.congr rfl rfl

/-! ## Every command and every step -/

/-- What leads to a kept view leads to a sound one. -/
theorem Leads.sound {o : Host.Outcome State Fault Refusal} (h : Leads Viewed o) : Leads ViewSound o := by
  obtain ⟨t, run, viewed⟩ := h
  exact ⟨t, run, viewed.sound⟩

/-- Each command keeps the view sound in the start sequence. -/
theorem exec_viewSound (i : Instr) (s : State) (sequence : StartSequence s) (h : ViewSound s) : Leads ViewSound (exec i s) := by
  have viewed := sequence.viewed h
  have received : ∀ f, Leads ViewSound (.next (receiveFrame s f)) := fun f =>
    ⟨_, rfl, (receiveFrame_viewed viewed sequence f).sound⟩
  have clocked : ∀ x : Controller, x.config = s.ctl.config → Viewed (s.setCtl x) := fun x config => viewed.congr config rfl id
  cases i with
  | powerOn => exact ⟨_, rfl, resetBlocks_viewSound _ _ _ rfl⟩
  | externalReset => exact ⟨_, rfl, resetBlocks_viewSound _ _ _ rfl⟩
  | brownOut =>
    refine ⟨_, rfl, ?_⟩
    split
    · exact h
    · exact resetBlocks_viewSound _ _ _ rfl
  | resetRelease | powerUpDelayExpiry =>
    refine ⟨_, rfl, ?_⟩
    split
    · dsimp only; split <;> exact h.congr rfl rfl
    · exact h
  | crystalStart straps =>
    refine ⟨_, rfl, ?_⟩
    split
    · exact (endClockstart_viewed (clocked _ (by rfl)) straps).sound
    · exact h
  | clockStartWindowExpiry straps =>
    refine ⟨_, rfl, ?_⟩
    split
    · exact (endClockstart_viewed (muteOrder_viewed (clocked _ (by rfl))) straps).sound
    · exact h
  | clockMonitorFallback =>
    refine ⟨_, rfl, ?_⟩
    split
    · exact (muteOrder_viewed (clocked _ (by rfl))).sound
    · exact h
  | serialMemoryReadEnd dataIn => exact execSerialMemoryReadEnd_view h sequence dataIn
  | selftestEnd bytes => exact (execSelftestEnd_viewed viewed sequence bytes).sound
  | scanTimerExpiry contacts => exact (execScanTimerExpiry_viewed viewed contacts).sound
  | conversionEnd input current =>
    refine ⟨_, rfl, ?_⟩
    split
    · cases input <;> exact h.congr rfl rfl
    · exact h
  | scanCompletion => exact (execScanCompletion_viewed viewed).sound
  | faultResetSample active => exact (execFaultResetSample_viewed viewed active).sound
  | slotStart idle dominant => exact (execSlotStart_viewed viewed idle dominant).sound
  | contentionLoss => exact (execContentionLoss_viewed viewed).sound
  | driveFailure f | stuckLine f =>
    refine ⟨_, rfl, ?_⟩
    split
    · exact (enterLineFault_viewed (viewed.stands (by simp) (by simp) (by simp))).sound
    · exact h
  | lineFaultTimerExpiry stuck =>
    refine ⟨_, rfl, ?_⟩
    split
    · split <;> exact h.congr rfl rfl
    · exact h
  | transmissionComplete => exact (execTransmissionComplete_viewed viewed).sound
  | stageReportReceived f | startNoticeReceived f | quitNoticeReceived f | badFrame f => exact received f
  | receiverSync | secondsTick | brownOutEnd =>
    refine ⟨_, rfl, ?_⟩
    split <;> exact h.congr rfl rfl
  | listenTimerExpiry => exact (execListenTimerExpiry_viewed viewed).sound
  | reportTimerExpiry =>
    refine ⟨_, rfl, ?_⟩
    split
    case isTrue due => exact (composeStage_viewed viewed (coord_ne_none_of_reporting due.1)).sound
    case isFalse => exact h
  | spacingTimerExpiry => exact (execSpacingTimerExpiry_viewed viewed).sound
  | ageingTimerExpiry =>
    refine ⟨_, rfl, ?_⟩
    split
    · exact ageing_viewSound h
    · exact h
  | allocationTimerExpiry =>
    refine ⟨_, rfl, ?_⟩
    split
    · exact (settle_viewed (viewed.stands (by simp) (by simp) (by simp)) _ _).sound
    · exact h
  | allocationCompletion => exact (execAllocationCompletion_viewed viewed).sound
  | holdOffExpiry => exact (execHoldOffExpiry_viewed viewed).sound
  | slewTimerExpiry => exact (execSlewTimerExpiry_viewed viewed).sound
  | startWindowExpiry k => exact (execStartWindowExpiry_viewed viewed k).sound
  | restTimerExpiry k =>
    refine ⟨_, rfl, ?_⟩
    split
    · exact (settle_viewed (viewed.stands (by simp) (by simp) (by simp)) _ _).sound
    · exact h
  | characterReceived c stopLow => exact execCharacterReceived_view h sequence c stopLow
  | responseEnd => exact execResponseEnd_view h sequence
  | status | view n | pump k | line | cause | clearFaults | clearLine | leave | rejoin | load offset bytes | loadEnd =>
    exact submitRequest_view h sequence _

/-- Settles O58: the start sequence and a sound view are kept together, each by its own commands. -/
theorem everyStepKeepsThePeerViewSound : Obligations.EveryStepKeepsThePeerViewSound := by
  intro s t sequence view next
  refine (step_keeps (P := fun s => StartSequence s ∧ ViewSound s)
    (fun _ _ h => ⟨h.1.congr rfl rfl rfl rfl fun _ => .rfl, h.2.congr rfl rfl⟩) (fun i u h => ?_) ⟨sequence, view⟩ next).2
  obtain ⟨v, run, kept⟩ := exec_startSequence i u h.1
  obtain ⟨w, run', sound⟩ := exec_viewSound i u h.1 h.2
  cases run.symm.trans run'
  exact ⟨v, run, kept, sound⟩

end Sys2Proof.Machine
end

section
/-! PROOFS. The serial memory read, the ageing of the peer view and the allocation timer (sections 3.5, 4.1, 5.1, 6.2 and 10.4 to
10.6). -/
namespace Sys2Proof.Machine

/-! ## The end of the serial memory read (O8) -/

/-- An image that passes is accepted (R58, R66, R79, R99, R105, R137, R181). -/
theorem acceptConfig_accepted (s : State) (c : StationConfig) (length : s.view.records.length = 24)
    (station : 1 ≤ c.station ∧ c.station ≤ 24) : Accepted s (acceptConfig s c) c where
  ctl := rfl
  port := rfl
  ageing := rfl
  own := by rw [acceptConfig_record s c length station station.1, if_pos rfl]
  peers n one _ other := by rw [acceptConfig_record s c length station one, if_neg other]
  allow := rfl
  alloc := rfl
  disp := rfl
  chans := acceptConfig_chan s c
  rest := ⟨rfl, rfl, rfl, rfl, rfl⟩

/-- The part that has read its image buffer (R176). -/
def imaged (s : State) (img : List Byte) : State := s.setCtl { s.ctl with image := some img }

/-- What CONFIG_LOAD does with an image that it has judged: it stops by source while none is accepted (R178). -/
def imageJudged (s : State) : State :=
  if s.ctl.step = .configLoad then
    s.setCtl { s.ctl with step := if sourceWaits (s.ctl.source.getD 3) then .configWait else .halted }
  else s

/-- The end of the read judges the bytes that came in (R176, R177). -/
theorem serialMemoryReadEnd_eq (s : State) (step : s.ctl.step = .configLoad) (dataIn : List Bool) :
    exec (.serialMemoryReadEnd dataIn) s =
      .next (imageJudged (judgeImage (imaged s (clockedIn dataIn)) (clockedIn dataIn))) :=
  congrArg Host.Outcome.next (if_pos step)

/-- Source code 2 alone waits for a load (R178). -/
theorem sourceWaits_iff (source : Option Nat) : sourceWaits (source.getD 3) = true ↔ source = some 2 := by
  cases source <;> simp [sourceWaits]

/-- CONFIG_LOAD without an acceptance ends by source (R178). -/
theorem imageJudged_refused (s : State) (step : s.ctl.step = .configLoad) :
    imageJudged s = s.setCtl { s.ctl with step := if s.ctl.source = some 2 then .configWait else .halted } := by
  simp only [imageJudged, if_pos step, sourceWaits_iff]

/-- Settles O8: the bytes are clocked in as they were sent, and `judgeImage` decides. -/
theorem theReadImageIsJudgedAtTheEndOfTheRead : Obligations.TheReadImageIsJudgedAtTheEndOfTheRead := by
  intro bytes s step length records dataIn
  have run := serialMemoryReadEnd_eq s step dataIn
  have clocked : clockedIn dataIn = bytes := clockedIn_msbBits bytes length
  rw [clocked] at run
  refine ⟨?select, ?command, fun r failed => ?refused, fun passed => ?accepted⟩
  case select => simp [outputs, step]
  case command => simp [outputs, step, memoryCommand]
  case refused =>
    have judged : judgeImage (imaged s bytes) bytes = s.setCtl { s.ctl with image := some bytes, reason := some r } := by
      simp only [judgeImage, imaged, State.setCtl_ctl, failed]; rfl
    rw [judged] at run
    exact run.trans (congrArg Host.Outcome.next (imageJudged_refused _ step))
  case accepted =>
    have judged : judgeImage (imaged s bytes) bytes = acceptConfig (imaged s bytes) (configOf bytes) := by
      simp only [judgeImage, imaged, State.setCtl_ctl, passed]
    have past : (acceptConfig (imaged s bytes) (configOf bytes)).ctl.step ≠ .configLoad := by simp [acceptConfig]
    rw [judged, imageJudged, if_neg past] at run
    exact ⟨_, run, by simp [imaged], acceptConfig_accepted (imaged s bytes) _ records (validate_station _ _ passed)⟩

/-! ## Ageing (O35) -/

/-- Settles O35: each record is aged by `ageRecord`. -/
theorem ageingDerivesTheStatusAndCountsPendingStartsDown : Obligations.AgeingDerivesTheStatusAndCountsPendingStartsDown := by
  intro s running
  refine ⟨s.setView { s.view with records := s.view.records.map (ageRecord (reportPeriod s.cfg)) },
    congrArg Host.Outcome.next (if_pos running), rfl, rfl, by simp, fun n one last => ?_⟩
  rw [aged_record s (reportPeriod s.cfg) n one last]
  obtain ⟨more, done, none⟩ := ageRecord_pending (reportPeriod s.cfg) (s.record n)
  exact ⟨fun ages => ageRecord_ages _ ages, fun still => ageRecord_stands _ still, more, done, none, rfl, rfl, rfl, rfl⟩

/-! ## The allocation timer (O36) -/

/-- The station with the table of an expiry and the figures formed from it (R101, R103). -/
def tabled (s : State) : State := reform (formTable s)

/-- The table and the figures touch the dispatch unit alone. -/
theorem tabled_eq (s : State) : tabled s = s.setDisp (tabled s).disp := by
  unfold tabled formTable
  split <;> rfl

/-- Qmax is read from the table and the configuration (R101). -/
theorem qmax_congr {s t : State} (table : t.disp.table = s.disp.table) (ctl : t.ctl = s.ctl) (k : Chan) :
    t.qmax k = s.qmax k := by
  have cfg : t.cfg = s.cfg := by simp only [State.cfg, ctl]
  unfold State.qmax State.fitted State.pump
  rw [table, cfg]

/-- E_hand is read from the hand-running set, the table and the configuration (R103). -/
theorem eHandOf_congr {s t : State} (hand : t.disp.hand = s.disp.hand) (table : t.disp.table = s.disp.table)
    (ctl : t.ctl = s.ctl) : eHandOf t = eHandOf s := by
  simp only [eHandOf, hand, qmax_congr table ctl]

/-- The dispatch unit with the table of an expiry: the lockout stands, and E_hand is that of the hand-running set (R103). -/
theorem tabled_disp (s : State) :
    (tabled s).disp.table = (formTable s).disp.table ∧ (tabled s).disp.lockout = s.disp.lockout ∧
      (tabled s).disp.eHand = eHandOf (tabled s) :=
  ⟨rfl, by simp only [tabled, reform, State.setDisp_disp]; rw [formTable_disp], rfl⟩

/-- The snapshot of an expiry, stored (R67, R81). -/
def snapped (s : State) : State :=
  (tabled s).setAlloc { (tabled s).alloc with snapshot := some (takeSnapshot (tabled s)) }

/-- The end of an expiry: an event whose snapshot has been taken (R81). -/
theorem allocationTimerExpiry_eq (s : State) (running : s.alloc.timer.isSome = true) :
    exec .allocationTimerExpiry s = .next (settle s 0 (snapped s)) :=
  congrArg Host.Outcome.next (if_pos running)

/-- The stored snapshot, seen from the station before the expiry. -/
theorem snapped_eq (s : State) :
    snapped s = (s.setDisp (tabled s).disp).setAlloc { s.alloc with snapshot := some (takeSnapshot (tabled s)) } := by
  unfold snapped
  rw [tabled_eq]; rfl

/-- Settles O36: the snapshot is that of the station with the table of the expiry, and the end of the event keeps it. -/
theorem theAllocationTimerTakesOneSnapshot : Obligations.TheAllocationTimerTakesOneSnapshot := by
  intro s running
  obtain ⟨table, lockout, formed⟩ := tabled_disp s
  have only := tabled_eq s
  have before := snapped_eq s
  have hand : (tabled s).disp.eHand = (settle s 0 (snapped s)).disp.eHand := by
    simp only [formed, settle_disp_kept]
    exact (eHandOf_congr rfl rfl rfl).symm
  have alloc : (settle s 0 (snapped s)).alloc =
      { s.alloc with snapshot := some (takeSnapshot (tabled s)), timer := (settle s 0 (snapped s)).alloc.timer } := by
    rw [settle_alloc, before]; rfl
  have qmax : ∀ k, (tabled s).qmax k = (settle s 0 (snapped s)).qmax k := fun k =>
    qmax_congr (by simp [before]) (by rw [only]; simp [before]) k
  refine ⟨settle s 0 (snapped s), takeSnapshot (tabled s), allocationTimerExpiry_eq s running, by rw [alloc], ?_⟩
  refine ⟨?records, ?port, ?coord, ?river, ?level, ?degraded, lockout, hand, ?chans, ?table, settle_formed _ _ _, alloc, ?prompt,
    by simp [before], by simp [before], by simp [before], by simp [before], by simp [before]⟩
  case chans =>
    intro k
    rw [← qmax, takeSnapshot, quadGet_quadOf, only]; rfl
  case table =>
    intro h head k
    simp only [settle_disp_kept]
    rw [← formTable_entry s h head k, ← table, before]; rfl
  case prompt =>
    intro reporting changed stays
    have prompted := settle_prompted s 0 (snapped s) (by rw [before]; exact reporting) (.inr changed.symm)
      (by rw [stays, before]; rfl)
    rw [before] at prompted ⊢
    exact prompted.congr_left rfl rfl rfl rfl .rfl
  all_goals rw [only]; rfl

end Sys2Proof.Machine
end

section
/-! PROOFS. The slew, the start window and the rest (sections 6.4, 6.5, 8.5 to 8.8). -/
namespace Sys2Proof.Machine

/-! ## The slew (O47) -/

/-- A reference at or above its target falls to it by at most one step (R112). -/
theorem slewToward_falling {step target n : Nat} (above : target ≤ n) : slewToward step target n = max (n - step) target := by
  unfold slewToward; split <;> omega

/-- A slew writes one reference, or ends a stop, or does nothing (R112, R113). -/
theorem slewChan_cases (s : State) (k : Chan) :
    slewChan s k = s ∨ (∃ n, slewChan s k = s.setChan k { s.chan k with reference := n }) ∨ slewChan s k = enterResting s k := by
  unfold slewChan
  dsimp only
  split
  · split
    · exact .inr (.inl ⟨_, rfl⟩)
    · exact .inl rfl
  · exact .inr (.inl ⟨_, rfl⟩)
  · split
    · exact .inr (.inr rfl)
    · exact .inr (.inl ⟨_, rfl⟩)
  · exact .inl rfl

/-- The slew of one channel leaves the others and their places in the hand-running set. -/
theorem slewChan_other (s : State) {j k : Chan} (h : k ≠ j) :
    (slewChan s j).chan k = s.chan k ∧ quadGet (slewChan s j).disp.hand k = quadGet s.disp.hand k := by
  rcases slewChan_cases s j with still | ⟨n, moved⟩ | rests
  · rw [still]; exact ⟨rfl, rfl⟩
  · rw [moved, State.setChan_chan, if_neg h]; exact ⟨rfl, rfl⟩
  · refine ⟨by rw [rests]; exact (enterResting_chan s j).2 k h, ?_⟩
    rw [rests, enterResting]
    split <;> rw [moveChan_hand, quadGet_quadSet_other _ _ h]

/-- The slew touches channels and the hand-running set alone. -/
@[simp] theorem slewChan_frame (s : State) (k : Chan) :
    (slewChan s k).ctl = s.ctl ∧ (slewChan s k).acq = s.acq ∧ (slewChan s k).port = s.port
    ∧ (slewChan s k).sched = s.sched ∧ (slewChan s k).view = s.view ∧ (slewChan s k).allow = s.allow
    ∧ (slewChan s k).alloc = s.alloc ∧ (slewChan s k).arb = s.arb ∧ (slewChan s k).sup = s.sup
    ∧ (slewChan s k).maint = s.maint ∧ (slewChan s k).pending = s.pending
    ∧ (slewChan s k).disp.rotation = s.disp.rotation ∧ (slewChan s k).disp.nt = s.disp.nt := by
  rcases slewChan_cases s k with still | ⟨n, moved⟩ | rests
  · simp [still]
  · simp [moved]
  · simp [rests]

/-- A RUNNING channel moves toward n_t (R112). -/
theorem slewChan_running {s : State} {k : Chan} {target : Nat} (state : (s.chan k).state = some .running)
    (formed : s.disp.nt = some target) :
    (slewChan s k).chan k = { s.chan k with reference := slewToward s.cfg.slewStep target (s.chan k).reference } := by
  simp [slewChan, state, formed, State.setChan_chan]

/-- A STARTING channel stands at nmin (R112). -/
theorem slewChan_starting {s : State} {k : Chan} (state : (s.chan k).state = some .starting) :
    (slewChan s k).chan k = { s.chan k with reference := (s.pump k).nmin } := by
  simp [slewChan, state, State.setChan_chan]

/-- A STOPPING channel within one step of nmin goes to its rest (R113, R150). -/
theorem slewChan_rests {s : State} {k : Chan} (state : (s.chan k).state = some .stopping)
    (within : (s.chan k).reference ≤ (s.pump k).nmin + s.cfg.slewStep) (above : (s.pump k).nmin ≤ (s.chan k).reference) :
    slewChan s k = enterResting s k := by
  have reached : slewToward s.cfg.slewStep (s.pump k).nmin (s.chan k).reference = (s.pump k).nmin := by
    rw [slewToward_falling above]; omega
  simp [slewChan, state, reached]

/-- A STOPPING channel farther from nmin falls by one step (R113). -/
theorem slewChan_falls {s : State} {k : Chan} (state : (s.chan k).state = some .stopping)
    (far : (s.pump k).nmin + s.cfg.slewStep < (s.chan k).reference) :
    (slewChan s k).chan k = { s.chan k with reference := (s.chan k).reference - s.cfg.slewStep } := by
  have falls : slewToward s.cfg.slewStep (s.pump k).nmin (s.chan k).reference = (s.chan k).reference - s.cfg.slewStep := by
    rw [slewToward_falling (by omega)]; omega
  have short : (s.chan k).reference - s.cfg.slewStep ≠ (s.pump k).nmin := by omega
  simp [slewChan, state, falls, short, State.setChan_chan]

/-- A channel that does not turn has no reference to move (R112). -/
theorem slewChan_still {s : State} {k : Chan} (running : (s.chan k).state ≠ some .running)
    (starting : (s.chan k).state ≠ some .starting) (stopping : (s.chan k).state ≠ some .stopping) : slewChan s k = s := by
  unfold slewChan; dsimp only; split <;> simp_all

/-- The station after the references have moved (R112). -/
def slewn (s : State) : State := forChans slewChan s

/-- So do the slews of all channels. -/
@[simp] theorem slewn_frame (s : State) :
    (slewn s).ctl = s.ctl ∧ (slewn s).acq = s.acq ∧ (slewn s).port = s.port ∧ (slewn s).sched = s.sched
    ∧ (slewn s).allow = s.allow ∧ (slewn s).arb = s.arb ∧ (slewn s).sup = s.sup ∧ (slewn s).maint = s.maint
    ∧ (slewn s).disp.rotation = s.disp.rotation := by
  simp [slewn, forChans]

/-- What the slew of the other channels relates at a channel. -/
structure SlewKept (k : Chan) (s t : State) : Prop where
  ctl  : t.ctl = s.ctl
  acq  : t.acq = s.acq
  nt   : t.disp.nt = s.disp.nt
  chan : t.chan k = s.chan k
  hand : quadGet t.disp.hand k = quadGet s.disp.hand k

/-- Each channel is moved by its own slew, from the state that it had (R112). -/
theorem slewn_around (s : State) (k : Chan) : ∃ u, SlewKept k s u ∧ SlewKept k (slewChan u k) (slewn s) :=
  forChans_around (R := SlewKept k) (fun _ => ⟨rfl, rfl, rfl, rfl, rfl⟩)
    (fun h g => ⟨g.ctl.trans h.ctl, g.acq.trans h.acq, g.nt.trans h.nt, g.chan.trans h.chan, g.hand.trans h.hand⟩) k
    (fun u j other => ⟨by simp, by simp, by simp, (slewChan_other u other).1, (slewChan_other u other).2⟩) s

/-- With no latch on its way a slew expiry ends as an event that has moved references (R112). -/
theorem slewTimerExpiry_eq (s : State) (running : s.disp.slewTimer.isSome = true) (offered : NoneOffered s) :
    exec .slewTimerExpiry s = .next (settle s 0 (slewn s)) := by
  have whole : exec .slewTimerExpiry s = .next (latchesArrive (settle s 0 (slewn s))) :=
    congrArg (fun u => Host.Outcome.next (latchesArrive u)) (if_pos running)
  rw [whole, latchesArrive_none _ (by simpa [NoneOffered] using offered)]

/-- Settles O47: each channel is moved by its own slew (`slewn_around`), case by case of its state. -/
theorem theSlewMovesReferencesByAtMostOneStep : Obligations.TheSlewMovesReferencesByAtMostOneStep := by
  intro s running offered
  refine ⟨_, slewTimerExpiry_eq s running offered, settle_formed _ _ _, settle_quitTested _ _ _ (by simp) (by simp) (by simp)
    (by simp), by simp, by simp, by simp, by simp, by simp, by simp, by simp, fun k => ?_⟩
  obtain ⟨u, before, after⟩ := slewn_around s k
  have chan : (settle s 0 (slewn s)).chan k = (slewChan u k).chan k := by
    rw [← after.chan]; simp [State.chan]
  have cfg : u.cfg = s.cfg := by simp only [State.cfg, before.ctl]
  have pump : u.pump k = s.pump k := by simp only [State.pump, cfg]
  simp only [chan, ← before.chan, ← before.nt, ← pump, ← cfg]
  refine ⟨fun target state formed => ?running, slewChan_starting, fun state within above => ?rests, slewChan_falls,
    fun r a p => ?still⟩
  case running =>
    rw [slewChan_running state formed]
    exact ⟨rfl, fun below => if_pos below, fun above => if_neg (by omega)⟩
  case rests =>
    have rested := (enterResting_chan u k).1
    rw [← slewChan_rests state within above] at rested
    exact Placed.congr (m := .auto) rested before.ctl (by simp only [State.current, before.acq]) chan.symm
      (by rw [← after.hand]; simp)
  case still => rw [slewChan_still r a p]

/-! ## The start window and the rest (O48) -/

/-- The no-start check fails below I_ul alone (R161). -/
theorem noStartFails_iff (s : State) (k : Chan) : noStartFails s k = true ↔ ∃ i, s.current k = some i ∧ i < (s.pump k).iul := by
  unfold noStartFails; split <;> simp_all

/-- A channel that enters or leaves RUNNING is an occasion to form n_t (R111). -/
theorem speedTargetDue_of_running {s0 s : State} {k : Chan} (h : s0.isIn k .running ≠ s.isIn k .running) :
    speedTargetDue s0 s = true := by
  have differ : runningSet s0 ≠ runningSet s := fun same => h (by
    simpa only [runningSet, quadGet_quadOf] using congrArg (quadGet · k) same)
  simp [speedTargetDue, differ]

/-- So is a latch that a channel takes (R163). -/
theorem speedTargetDue_of_fault {s0 s : State} {k : Chan} (fault : s.isIn k .fault = true) (before : s0.isIn k .fault = false) :
    speedTargetDue s0 s = true := by
  have any : (anyChan fun j => s.isIn j .fault && !s0.isIn j .fault) = true := by
    cases k <;> simp [anyChan, fault, before]
  simp [speedTargetDue, any]

/-- The end of an event with `n` prompt causes of its own that gives a channel its new state, with `sup` in the current checks. -/
def movedOn (s : State) (n : Nat) (sup : Supervision) (k : Chan) (c : Channel) : State :=
  settle s n (moveChan (s.setSup sup) k c)

section
variable (s : State) (n : Nat) (sup : Supervision) (k : Chan) (c : Channel)

/-- The moved channel is in its new state, and the others stand. -/
theorem movedOn_chan (j : Chan) : (movedOn s n sup k c).chan j = if j = k then c else s.chan j := by
  have chan : (movedOn s n sup k c).chan j = (moveChan (s.setSup sup) k c).chan j := by simp [movedOn, State.chan]
  rw [chan, moveChan_chan]; rfl

theorem movedOn_same : (movedOn s n sup k c).chan k = c := by rw [movedOn_chan, if_pos rfl]

theorem movedOn_other (j : Chan) (h : j ≠ k) : (movedOn s n sup k c).chan j = s.chan j := by rw [movedOn_chan, if_neg h]

/-- The end of the event leaves the blocks that it has no concern with. -/
@[simp] theorem movedOn_frame :
    (movedOn s n sup k c).ctl = s.ctl ∧ (movedOn s n sup k c).acq = s.acq ∧ (movedOn s n sup k c).allow = s.allow
    ∧ (movedOn s n sup k c).sup = sup ∧ (movedOn s n sup k c).maint = s.maint
    ∧ (movedOn s n sup k c).disp.rotation = s.disp.rotation := by
  simp [movedOn]

theorem movedOn_formed : FiguresFormed (movedOn s n sup k c) := settle_formed _ _ _

theorem movedOn_quitTested : QuitTested s (movedOn s n sup k c) := settle_quitTested _ _ _ rfl rfl rfl rfl

/-- A channel that ends STARTING in RUNNING or FAULT has n_t formed (R111, R163). -/
theorem movedOn_speedTarget (starting : s.isIn k .starting = true) (ends : c.state = some .running ∨ c.state = some .fault) :
    SpeedTargetFormed s (movedOn s n sup k c) := by
  have before : s.isIn k .running = false ∧ s.isIn k .fault = false := by
    simp only [State.isIn, beq_iff_eq] at starting ⊢
    simp [starting]
  have after : ∀ x, (moveChan (s.setSup sup) k c).isIn k x = (c.state == some x) := fun x => by
    rw [moveChan_isIn, if_pos rfl]
  have due : speedTargetDue s (moveChan (s.setSup sup) k c) = true := by
    rcases ends with running | fault
    · exact speedTargetDue_of_running (k := k) (by simp [after, before, running])
    · exact speedTargetDue_of_fault (by simp [after, fault]) before.2
  obtain ⟨formed, kept⟩ := settle_speedTarget s n _ due
  exact ⟨formed, kept⟩

/-- A prompt cause of the event in a station that goes on reporting (R51, R52). -/
theorem movedOn_prompted (reporting : s.reporting = true) (stays : (movedOn s (n + 1) sup k c).sched.coord = s.sched.coord) :
    Prompted s (movedOn s (n + 1) sup k c) :=
  (settle_prompted s (n + 1) (moveChan (s.setSup sup) k c) reporting (.inl n.succ_pos) stays).congr_left rfl rfl rfl rfl .rfl

end

/-- With no latch on its way the end of a start window takes NO_START or makes the channel RUNNING (R148, R161). -/
theorem startWindowExpiry_eq (k : Chan) (s : State) (starting : s.isIn k .starting = true)
    (window : (s.chan k).window.isSome = true) (offered : NoneOffered s) :
    exec (.startWindowExpiry k) s = .next (
      if noStartFails s k then
        movedOn s 1 { s.sup with watch := quadSet s.sup.watch k { Watch.reset with latch := some .noStart } } k
          (parked (s.chan k) .fault)
      else movedOn s 0 s.sup k { s.chan k with state := some .running, window := none }) := by
  have turning : s.turning k = true := by simp [State.turning, State.inR, starting]
  have whole : exec (.startWindowExpiry k) s = .next (latchesArrive (
      if noStartFails s k then settle s 1 (latchFault s k .noStart)
      else movedOn s 0 s.sup k { s.chan k with state := some .running, window := none })) :=
    congrArg (fun u => Host.Outcome.next (latchesArrive u)) (if_pos ⟨starting, window⟩)
  have latched : latchFault s k .noStart = moveChan (s.setSup { s.sup with
      watch := quadSet s.sup.watch k { Watch.reset with latch := some .noStart } }) k (parked (s.chan k) .fault) :=
    if_pos turning
  rw [whole, latched, latchesArrive_none]
  · rfl
  · split <;> simpa [NoneOffered] using offered

/-- The end of a rest makes the channel IDLE (R144). -/
theorem restTimerExpiry_eq (k : Chan) (s : State) (resting : s.isIn k .resting = true) (rest : (s.chan k).rest.isSome = true) :
    exec (.restTimerExpiry k) s = .next (movedOn s 0 s.sup k (parked (s.chan k) .idle)) :=
  congrArg Host.Outcome.next (if_pos ⟨resting, rest⟩)

/-- Settles O48: all three ends give one channel its new state (`movedOn`). -/
theorem theStartWindowAndTheRestEnd : Obligations.TheStartWindowAndTheRestEnd := by
  refine ⟨fun k s starting window offered => ?window, fun k s resting rest => ?rest⟩
  case window =>
    refine ⟨_, startWindowExpiry_eq k s starting window offered, ?_⟩
    by_cases fails : noStartFails s k = true
    · rw [if_pos fails]
      obtain ⟨i, current, low⟩ := (noStartFails_iff s k).1 fails
      refine ⟨movedOn_other _ _ _ _ _, movedOn_formed _ _ _ _ _, movedOn_quitTested _ _ _ _ _,
        movedOn_speedTarget _ _ _ _ _ starting (.inr rfl), by simp, by simp, by simp, by simp, by simp, ?taken, ?high⟩
      case taken =>
        intro _ _ _
        rw [movedOn_same]
        refine ⟨parked_off _ _, rfl, ?_, movedOn_prompted _ _ _ _ _⟩
        simp only [movedOn_frame, quadGet_quadSet_same]; rfl
      case high => exact fun high => absurd (high i current) (by omega)
    · rw [if_neg fails]
      refine ⟨movedOn_other _ _ _ _ _, movedOn_formed _ _ _ _ _, movedOn_quitTested _ _ _ _ _,
        movedOn_speedTarget _ _ _ _ _ starting (.inl rfl), by simp, by simp, by simp, by simp, by simp, ?low, ?runs⟩
      case low => exact fun i current low => absurd ((noStartFails_iff s k).2 ⟨i, current, low⟩) fails
      case runs => exact fun _ => ⟨movedOn_same _ _ _ _ _, by simp⟩
  case rest =>
    refine ⟨_, restTimerExpiry_eq k s resting rest, ?_, ?_, movedOn_other _ _ _ _ _, movedOn_formed _ _ _ _ _,
      movedOn_quitTested _ _ _ _ _, by simp, by simp, by simp, by simp, by simp, by simp⟩
    · rw [movedOn_same]; exact parked_off _ _
    · rw [movedOn_same]; rfl

end Sys2Proof.Machine
end

section
/-! PROOFS. The clear of the fault latches, by the reset input and by request (sections 8.8, 9.4 and 11.2). -/
namespace Sys2Proof.Machine

/-! ## The fault-reset input (R164) -/

/-- The newest sample forms the debounced level when the four before it agree with it (R164). -/
theorem debounced_sample (a : Bool) (samples : List Bool) (level : Option Bool) :
    debounced ((a :: samples).take 5) level = if samples.take 4 = [a, a, a, a] then some a else level := by
  rw [List.take_succ_cons]
  cases a <;> simp [debounced]

/-- A rising edge takes a formed inactive level to active (R164). -/
theorem risingEdge_iff (s : State) (a : Bool) :
    risingEdge s a = true ↔ a = true ∧ s.sup.level = some false ∧ s.sup.samples.take 4 = [true, true, true, true] := by
  rw [risingEdge, debounced_sample, Bool.and_eq_true, beq_iff_eq, beq_iff_eq]
  constructor
  · rintro ⟨inactive, active⟩
    rw [inactive] at active ⊢
    split at active <;> simp_all
  · rintro ⟨rfl, inactive, agree⟩
    simp [inactive, agree]

/-- A sample taken into the current checks (R164). -/
def Supervision.sampled (x : Supervision) (a : Bool) : Supervision :=
  { x with samples := (a :: x.samples).take 5
           level := if x.samples.take 4 = [a, a, a, a] then some a else x.level }

/-- Out of reset a sample is taken, and a rising edge clears the latches (R164). -/
theorem faultResetSample_eq (s : State) (a : Bool) (released : s.ctl.resetHeld = false) :
    exec (.faultResetSample a) s = .next (
      if risingEdge s a then clearFaultLatches (s.setSup (s.sup.sampled a)) else s.setSup (s.sup.sampled a)) := by
  have held : ¬ s.ctl.resetHeld = true := by simp [released]
  have taken : exec (.faultResetSample a) s = .next (
      if risingEdge s a then
        clearFaultLatches (s.setSup { s.sup with samples := (a :: s.sup.samples).take 5
                                                 level := debounced ((a :: s.sup.samples).take 5) s.sup.level })
      else s.setSup { s.sup with samples := (a :: s.sup.samples).take 5
                                 level := debounced ((a :: s.sup.samples).take 5) s.sup.level }) :=
    congrArg Host.Outcome.next (if_neg held)
  rw [taken, debounced_sample]
  rfl

/-! ## The clear (R152, R165) -/

/-- All latches and counts at 0 (R165). -/
def watchesReset (s : State) : State := s.setSup { s.sup with watch := ⟨.reset, .reset, .reset, .reset⟩ }

/-- A channel in FAULT leaves it by its mode (R152). -/
def leaveFault (s : State) (k : Chan) : State := if s.isIn k .fault then placeByMode s k else s

/-- Every channel in FAULT has left it (R152). -/
def faultsLeft (s : State) : State := forChans leaveFault (watchesReset s)

/-- The clear of all latches: an event that has moved channels when one was in FAULT (R152, R165). -/
def faultsCleared (s : State) : State :=
  if anyChan fun k => s.isIn k .fault then settle (watchesReset s) 0 (faultsLeft s) else watchesReset s

/-- The placement of one channel leaves the others and every other block. -/
theorem leaveFault_other (s : State) {j k : Chan} (h : k ≠ j) : Untouched k s (leaveFault s j) := by
  unfold leaveFault
  split
  · rcases placeByMode_cases s j with still | ⟨c, -, moved⟩
    · rw [still]; exact .refl k s
    · rw [moved]
      exact ⟨moveChan_modeFrame s j c, by rw [moveChan_chan, if_neg h], by rw [moveChan_hand, quadGet_quadSet_other _ _ h]⟩
  · exact .refl k s

/-- A placement touches channels and the hand-running set alone. -/
theorem leaveFault_modeFrame (s : State) (k : Chan) : ModeFrame s (leaveFault s k) := by
  unfold leaveFault
  split
  · rcases placeByMode_cases s k with still | ⟨c, -, moved⟩
    · rw [still]; exact .refl s
    · rw [moved]; exact moveChan_modeFrame s k c
  · exact .refl s

/-- A channel in FAULT is placed by its mode, and any other stands (R152). -/
theorem leaveFault_chan (s : State) (k : Chan) :
    (s.isIn k .fault = true → Placed s (leaveFault s k) k (s.chan k).mode) ∧ (s.isIn k .fault = false → leaveFault s k = s) := by
  refine ⟨fun fault => ?_, fun other => if_neg (by simp [other])⟩
  rw [leaveFault, if_pos fault]
  exact (placeByMode_chan s k).1

theorem faultsLeft_modeFrame (s : State) : ModeFrame (watchesReset s) (faultsLeft s) :=
  forChans_keeps (P := ModeFrame (watchesReset s)) (fun u k h => h.trans (leaveFault_modeFrame u k)) _ (.refl _)

/-- What becomes of one channel at a clear (R152). -/
theorem faultsLeft_chan (s : State) (k : Chan) :
    (s.isIn k .fault = true → Placed s (faultsLeft s) k (s.chan k).mode) ∧
    (s.isIn k .fault = false →
      (faultsLeft s).chan k = s.chan k ∧ quadGet (faultsLeft s).disp.hand k = quadGet s.disp.hand k) := by
  obtain ⟨u, before, after⟩ := forChans_around (.refl k) .trans k (fun u _ h => leaveFault_other u h) (watchesReset s)
  have same : u.isIn k .fault = s.isIn k .fault := by simp only [State.isIn, State.chanState, before.chan]; rfl
  obtain ⟨placed, still⟩ := leaveFault_chan u k
  rw [same] at placed still
  refine ⟨fun fault => ?_, fun other => ?_⟩
  · have there := placed fault
    rw [before.chan] at there
    exact there.carried (by simp only [State.cfg, before.frame.ctl]; rfl) before.frame.acq before.chan before.hand
      after.chan.symm after.hand.symm
  · have stands := still other
    rw [stands] at after
    exact ⟨after.chan.trans before.chan, after.hand.trans before.hand⟩

/-- Without a channel in FAULT no channel is placed. -/
theorem faultsLeft_none (s : State) (h : ¬ (anyChan fun k => s.isIn k .fault) = true) : faultsLeft s = watchesReset s := by
  have out : ∀ k, (watchesReset s).isIn k .fault = false := by
    simp only [anyChan, Bool.not_eq_true, Bool.or_eq_false_iff] at h
    intro k; cases k <;> simp [watchesReset, h]
  have step : ∀ k, leaveFault (watchesReset s) k = watchesReset s := fun k => (leaveFault_chan _ k).2 (out k)
  simp only [faultsLeft, forChans, step]

/-- The end of the event changes neither the channels nor what else it has no concern with. -/
theorem faultsCleared_frame (s : State) :
    (faultsCleared s).ctl = s.ctl ∧ (faultsCleared s).acq = s.acq ∧ (faultsCleared s).sup = (watchesReset s).sup
    ∧ (faultsCleared s).allow = s.allow ∧ (faultsCleared s).maint = s.maint
    ∧ (faultsCleared s).chans = (faultsLeft s).chans ∧ (faultsCleared s).disp.hand = (faultsLeft s).disp.hand
    ∧ (faultsCleared s).disp.rotation = s.disp.rotation ∧ (faultsCleared s).disp.lockout = s.disp.lockout := by
  have frame := faultsLeft_modeFrame s
  have ctl : (faultsLeft s).ctl = s.ctl := frame.ctl
  have acq : (faultsLeft s).acq = s.acq := frame.acq
  have allow : (faultsLeft s).allow = s.allow := frame.allow
  have maint : (faultsLeft s).maint = s.maint := frame.maint
  have disp : (faultsLeft s).disp.rotation = s.disp.rotation ∧ (faultsLeft s).disp.lockout = s.disp.lockout := by
    rw [frame.disp]; exact ⟨rfl, rfl⟩
  unfold faultsCleared
  split
  case isTrue => simp [ctl, acq, frame.sup, allow, maint, disp]
  case isFalse none => rw [faultsLeft_none s none]; exact ⟨rfl, rfl, rfl, rfl, rfl, rfl, rfl, rfl, rfl⟩

/-- With no latch on its way the latches are cleared so (R165). -/
theorem clearFaultLatches_eq (s : State) (offered : NoneOffered s) : clearFaultLatches s = faultsCleared s := by
  have whole : clearFaultLatches s = latchesArrive (faultsCleared s) := rfl
  rw [whole, latchesArrive_none]
  simp only [NoneOffered, faultsCleared_frame]
  exact offered

/-- A changed E_hand is a prompt cause of a station that goes on reporting (R51, R52). -/
theorem faultsCleared_prompted (s : State) (reporting : s.reporting = true)
    (hand : (faultsCleared s).disp.eHand ≠ s.disp.eHand) (stays : (faultsCleared s).sched.coord = s.sched.coord) :
    Prompted s (faultsCleared s) := by
  by_cases any : (anyChan fun k => s.isIn k .fault) = true
  · have ends : faultsCleared s = settle (watchesReset s) 0 (faultsLeft s) := if_pos any
    rw [ends] at hand stays ⊢
    have frame := faultsLeft_modeFrame s
    have sched : (faultsLeft s).sched = s.sched := frame.sched
    have prompted := settle_prompted (watchesReset s) 0 (faultsLeft s) (by simpa [State.reporting, sched] using reporting)
      (.inr hand.symm) (by rw [stays, sched])
    exact prompted.congr_left sched frame.ctl frame.view frame.state frame.line
  · have ends : faultsCleared s = watchesReset s := if_neg any
    rw [ends] at hand
    exact absurd rfl hand

/-- The clear does what R51, R102, R152 and R165 say. -/
theorem faultsCleared_cleared (s : State) : Cleared s (faultsCleared s) := by
  obtain ⟨ctl, acq, sup, allow, -, chans, hand, rotation, lockout⟩ := faultsCleared_frame s
  have chan : ∀ k, (faultsCleared s).chan k = (faultsLeft s).chan k := fun k => by simp only [State.chan, chans]
  constructor
  case watch => intro k; rw [sup]; cases k <;> rfl
  case left =>
    intro k fault
    exact ((faultsLeft_chan s k).1 fault).carried rfl rfl rfl rfl (chan k).symm (by rw [hand])
  case others =>
    intro k other
    rw [chan, hand]
    exact (faultsLeft_chan s k).2 other
  case prompt => exact faultsCleared_prompted s
  case frame => exact ⟨ctl, acq, allow, rotation, lockout⟩

/-- A clear is judged without the current checks before it. -/
theorem Cleared.before {s t : State} {x : Supervision} (h : Cleared (s.setSup x) t) : Cleared s t where
  watch := h.watch
  left := h.left
  others := h.others
  prompt reporting hand stays := (h.prompt reporting hand stays).congr_left rfl rfl rfl rfl .rfl
  frame := h.frame

/-- An answer leaves what a clear has left. -/
theorem Cleared.answered {s t : State} (h : Cleared s t) (r : Response) : Cleared s (respond t r) where
  watch := h.watch
  left := h.left
  others := h.others
  prompt reporting hand stays := ⟨(h.prompt reporting hand stays).pending, (h.prompt reporting hand stays).atOnce⟩
  frame := h.frame

/-- Settles O21: the rising edge and the request both come to `faultsCleared`; any other sample is taken alone. -/
theorem anEdgeOrClearFaultsClearsTheLatches : Obligations.AnEdgeOrClearFaultsClearsTheLatches := by
  intro s
  refine ⟨fun released inactive agree offered => ?edge, fun opened held silent offered => ?request,
    fun a released noEdge => ?sample⟩
  case edge =>
    have edge : risingEdge s true = true := (risingEdge_iff s true).2 ⟨rfl, inactive, agree⟩
    have run := faultResetSample_eq s true released
    rw [if_pos edge, clearFaultLatches_eq (s.setSup (s.sup.sampled true)) offered] at run
    obtain ⟨-, -, sup, -, maint, -⟩ := faultsCleared_frame (s.setSup (s.sup.sampled true))
    exact ⟨_, run, by rw [sup]; simp [watchesReset, Supervision.sampled, agree],
      by rw [sup]; simp [watchesReset, Supervision.sampled, agree], maint, (faultsCleared_cleared _).before⟩
  case request =>
    have run : exec .clearFaults s = .next (respond (faultsCleared s) .ok) := by
      rw [← clearFaultLatches_eq s offered]
      exact congrArg Host.Outcome.next (submitRequest_idle opened held silent .clearFaults)
    obtain ⟨-, -, sup, -, maint, -⟩ := faultsCleared_frame s
    exact ⟨_, run, by simp [respond, sup, watchesReset], by simp [respond, sup, watchesReset], by simp [respond, maint],
      (faultsCleared_cleared s).answered .ok⟩
  case sample =>
    have run := faultResetSample_eq s a released
    rw [if_neg (fun edge => noEdge ((risingEdge_iff s a).1 edge))] at run
    exact run

end Sys2Proof.Machine
end

section
/-! PROOFS. The prompt causes of a scan completion (sections 3.2 to 3.4, 6.2 and 9.3). -/
namespace Sys2Proof.Machine

/-! ## What a scan completion leaves of the reports -/

/-- What the prompt causes and the QUIT test read of a state is kept up to the end of a scan completion: only the held river side
follows, and the own notice may be withdrawn. -/
structure SameReports (s t : State) : Prop where
  ctl   : t.ctl = s.ctl
  view  : t.view = s.view
  sched : t.sched = { s.sched with riverSide := t.sched.riverSide }
  state : t.port.state = s.port.state
  quit  : t.port.queue.quit = s.port.queue.quit
  line  : StageOnLine t ↔ StageOnLine s

theorem SameReports.refl (s : State) : SameReports s s := ⟨rfl, rfl, rfl, rfl, rfl, .rfl⟩

theorem SameReports.trans {s t u : State} (h : SameReports s t) (g : SameReports t u) : SameReports s u where
  ctl := g.ctl.trans h.ctl
  view := g.view.trans h.view
  sched := by rw [g.sched, h.sched]
  state := g.state.trans h.state
  quit := g.quit.trans h.quit
  line := g.line.trans h.line

/-- A step that touches neither the port nor scheduler, view and configuration. -/
theorem SameReports.of_frame {s t : State} (ctl : t.ctl = s.ctl) (port : t.port = s.port) (sched : t.sched = s.sched)
    (view : t.view = s.view) : SameReports s t :=
  ⟨ctl, view, by rw [sched], by rw [port], by rw [port], StageOnLine.congr (by rw [port])⟩

/-- A withdrawal takes a START from the port, and no QUIT (R27). -/
theorem dropNotice_quit (s : State) : (dropNotice s).port.queue.quit = s.port.queue.quit := by
  unfold dropNotice
  split
  · unfold withdrawStart; split <;> rfl
  · rfl

theorem dropNotice_sameReports (s : State) : SameReports s (dropNotice s) :=
  ⟨by simp, by simp, by simp, by simp, dropNotice_quit s, dropNotice_stageOnLine s⟩

theorem withdrawNotice_sameReports (s : State) : SameReports s (withdrawNotice s) := by
  unfold withdrawNotice
  split
  · exact (dropNotice_sameReports s).trans (.of_frame (by simp) (by simp) (by simp) (by simp))
  · exact .refl s

theorem judgeLockout_sameReports (s : State) : SameReports s (judgeLockout s) := by
  unfold judgeLockout
  repeat' split
  case isFalse.isTrue =>
    refine SameReports.trans ?_ (withdrawNotice_sameReports _)
    exact forChans_keeps (P := SameReports s)
      (fun u k h => h.trans (.of_frame (t := dryRunOrder u k) (by simp) (by simp) (by simp) (by simp))) _
      (.of_frame rfl rfl rfl rfl)
  all_goals exact .of_frame rfl rfl rfl rfl

theorem followRiver_sameReports (s : State) : SameReports s (followRiver s) := by
  unfold followRiver
  repeat' split
  case isTrue => exact ⟨rfl, rfl, rfl, rfl, rfl, .rfl⟩
  all_goals exact .refl s

/-- The publication and the figures formed from it (R1, R101, R102). -/
def scanFormed (s : State) : State :=
  judgeHand (if s.disp.table.isNone then formTable (publish s) else publish s)

theorem scanJudged_eq (s : State) : scanJudged s = forChans superviseChan (judgeLockout (scanFormed s)) := rfl

theorem scanFormed_frame (s : State) :
    (scanFormed s).ctl = s.ctl ∧ (scanFormed s).port = s.port ∧ (scanFormed s).sched = s.sched ∧ (scanFormed s).view = s.view
    ∧ (scanFormed s).chans = s.chans := by
  unfold scanFormed; split <;> simp

theorem scanJudged_sameReports (s : State) : SameReports s (scanJudged s) := by
  obtain ⟨ctl, port, sched, view, -⟩ := scanFormed_frame s
  have formed : SameReports s (scanFormed s) := .of_frame ctl port sched view
  have supervised := forChans_keeps (P := SameReports (judgeLockout (scanFormed s)))
    (fun u k h => h.trans (.of_frame (t := superviseChan u k) (by simp) (by simp) (by simp) (by simp))) _ (.refl _)
  exact (formed.trans (judgeLockout_sameReports _)).trans supervised

/-- A report that an event leaves is one of the station before it. -/
theorem Prompted.before {s t u : State} (h : Prompted t u) (same : SameReports s t) : Prompted s u := by
  obtain ⟨ctl, view, sched, state, -, line⟩ := same
  have spacing : t.sched.spacingTimer = s.sched.spacingTimer := by rw [sched]
  have counter : t.sched.counter = s.sched.counter := by rw [sched]
  have cfg : t.cfg = s.cfg := by simp only [State.cfg, ctl]
  have own : t.own = s.own := by simp only [State.own, State.cfg, ctl]
  obtain ⟨pending, atOnce⟩ := h
  rw [spacing, line, counter] at pending
  rw [spacing, line, own, view, cfg, state] at atOnce
  exact ⟨pending, atOnce⟩

/-! ## Latched faults (R162, R163) -/

/-- A turning channel is not in FAULT. -/
theorem not_fault_of_turning {s : State} {k : Chan} (h : s.turning k = true) : s.isIn k .fault = false := by
  cases state : s.chanState k with
  | none => simp [State.isIn, state]
  | some x => cases x <;> simp_all [State.turning, State.inR, State.isIn]

/-- Up to the end of a scan completion a channel comes to FAULT from a turning state alone, no channel leaves FAULT, and none is
started. -/
structure FaultsLatched (k : Chan) (s t : State) : Prop where
  stays : s.isIn k .fault = true → t.isIn k .fault = true
  taken : t.isIn k .fault = true → s.isIn k .fault = true ∨ s.turning k = true
  turns : t.turning k = true → s.turning k = true

/-- A channel that stands is in its state as before. -/
theorem FaultsLatched.of_chan {k : Chan} {s t : State} (chan : t.chan k = s.chan k) : FaultsLatched k s t := by
  have isIn : ∀ x, t.isIn k x = s.isIn k x := fun x => by simp only [State.isIn, State.chanState, chan]
  have turning : t.turning k = s.turning k := by simp only [State.turning, State.inR, isIn]
  exact ⟨fun h => (isIn _).trans h, fun h => .inl ((isIn _).symm.trans h), fun h => turning.symm.trans h⟩

theorem FaultsLatched.trans {k : Chan} {s t u : State} (h : FaultsLatched k s t) (g : FaultsLatched k t u) :
    FaultsLatched k s u where
  stays := g.stays ∘ h.stays
  taken fault := (g.taken fault).elim h.taken fun turning => .inr (h.turns turning)
  turns := h.turns ∘ g.turns

/-- The current checks are no concern of it. -/
theorem FaultsLatched.after_setSup {k : Chan} {s t : State} {x : Supervision} (h : FaultsLatched k (s.setSup x) t) :
    FaultsLatched k s t :=
  ⟨h.stays, h.taken, h.turns⟩

/-- A channel that is parked does not turn, and it comes to FAULT from a turning state alone. -/
theorem moveChan_faultsLatched {s : State} {j : Chan} {c : Channel} {x : ChanState} (state : c.state = some x)
    (before : s.isIn j .fault = false) (still : x = .resting ∨ x = .idle ∨ (x = .fault ∧ s.turning j = true)) (k : Chan) :
    FaultsLatched k s (moveChan s j c) := by
  by_cases same : k = j
  · subst same
    have isIn : ∀ y, (moveChan s k c).isIn k y = (some x == some y) := fun y => by rw [moveChan_isIn, if_pos rfl, state]
    have turns : (moveChan s k c).turning k = false := by
      simp only [State.turning, State.inR, isIn]
      rcases still with rfl | rfl | ⟨rfl, -⟩ <;> rfl
    refine ⟨fun fault => by simp [before] at fault, fun fault => ?_, fun turning => by simp [turns] at turning⟩
    rw [isIn] at fault
    rcases still with rfl | rfl | ⟨rfl, turning⟩
    · simp at fault
    · simp at fault
    · exact .inr turning
  · exact .of_chan (by rw [moveChan_chan, if_neg same])

/-- The orders of the lockout bring no channel to FAULT (R114). -/
theorem dryRunOrder_faultsLatched (s : State) (j k : Chan) : FaultsLatched k s (dryRunOrder s j) := by
  unfold dryRunOrder
  split
  case isTrue turning =>
    have before := not_fault_of_turning turning
    unfold enterResting
    split
    · exact moveChan_faultsLatched rfl before (.inr (.inl rfl)) k
    · exact moveChan_faultsLatched rfl before (.inl rfl) k
  case isFalse => exact .of_chan rfl

theorem withdrawNotice_faultsLatched (s : State) (k : Chan) : FaultsLatched k s (withdrawNotice s) := by
  unfold withdrawNotice
  split
  case h_1 n _ =>
    have dropped : FaultsLatched k s (dropNotice s) := .of_chan (by simp [State.chan])
    refine dropped.trans ?_
    unfold backToIdle
    split
    case isTrue notice =>
      have before : (dropNotice s).isIn n.channel .fault = false := by
        simp only [State.isIn, beq_iff_eq] at notice ⊢
        simp [notice]
      exact moveChan_faultsLatched rfl before (.inr (.inl rfl)) k
    case isFalse => exact .of_chan rfl
  case h_2 => exact .of_chan rfl

theorem judgeLockout_faultsLatched (s : State) (k : Chan) : FaultsLatched k s (judgeLockout s) := by
  unfold judgeLockout
  repeat' split
  case isFalse.isTrue =>
    refine FaultsLatched.trans ?_ (withdrawNotice_faultsLatched _ k)
    exact forChans_keeps (P := FaultsLatched k s) (fun u j h => h.trans (dryRunOrder_faultsLatched u j k)) _ (.of_chan rfl)
  all_goals exact .of_chan rfl

theorem latchFault_faultsLatched (s : State) (j : Chan) (kind : FaultKind) (k : Chan) :
    FaultsLatched k s (latchFault s j kind) := by
  unfold latchFault
  split
  case isTrue turning =>
    refine (moveChan_faultsLatched (x := .fault) ?_ ?_ (.inr (.inr ⟨rfl, ?_⟩)) k).after_setSup
    · rfl
    · exact not_fault_of_turning turning
    · exact turning
  case isFalse => exact .of_chan rfl

theorem superviseChan_faultsLatched (s : State) (j k : Chan) : FaultsLatched k s (superviseChan s j) := by
  unfold superviseChan
  dsimp only
  repeat' split
  · unfold offerLatch
    split
    · exact .of_chan rfl
    · exact (latchFault_faultsLatched _ j _ k).after_setSup
  all_goals exact .of_chan rfl

/-- The current checks alone bring a channel to FAULT, from a turning state (R162). -/
theorem scanJudged_faultsLatched (s : State) (k : Chan) : FaultsLatched k s (scanJudged s) := by
  have formed : FaultsLatched k s (scanFormed s) := .of_chan (by
    obtain ⟨-, -, -, -, chans⟩ := scanFormed_frame s
    simp only [State.chan, chans])
  rw [scanJudged_eq]
  exact forChans_keeps (P := FaultsLatched k s) (fun u j h => h.trans (superviseChan_faultsLatched u j k)) _
    (formed.trans (judgeLockout_faultsLatched _ k))

/-- While no channel leaves FAULT, more channels are in FAULT just when one has come to it (R163). -/
theorem faultCount_lt_iff {s t : State} (stays : ∀ k, s.isIn k .fault = true → t.isIn k .fault = true) :
    faultCount s < faultCount t ↔ ∃ k, s.isIn k .fault = false ∧ t.isIn k .fault = true := by
  have le : ∀ k, (if s.isIn k .fault then 1 else 0) ≤ if t.isIn k .fault then 1 else 0 := fun k => by
    by_cases fault : s.isIn k .fault = true
    · simp [fault, stays k fault]
    · simp [fault]
  constructor
  · intro more
    by_contra none
    have same : ∀ k, t.isIn k .fault = s.isIn k .fault := fun k => by
      cases before : s.isIn k .fault
      · cases after : t.isIn k .fault
        · rfl
        · exact absurd ⟨k, before, after⟩ none
      · exact stays k before
    simp [faultCount, same] at more
  · rintro ⟨k, before, after⟩
    have p1 := le .p1
    have p2 := le .p2
    have p3 := le .p3
    have p4 := le .p4
    simp only [faultCount, sumChans]
    cases k <;> simp only [before, after] at p1 p2 p3 p4 ⊢ <;> simp <;> omega

/-- A scan completion raises a prompt cause of its own for a crossing and for a latched fault (R51, R163). -/
theorem scanCauses_pos (s : State) :
    0 < scanCauses s ↔ crossed (scanJudged s) = true ∨ ∃ k, s.turning k = true ∧ (scanJudged s).isIn k .fault = true := by
  have latched : faultCount s < faultCount (scanJudged s) ↔ ∃ k, s.turning k = true ∧ (scanJudged s).isIn k .fault = true := by
    rw [faultCount_lt_iff fun k => (scanJudged_faultsLatched s k).stays]
    refine exists_congr fun k => ⟨fun ⟨before, after⟩ => ⟨?_, after⟩, fun ⟨turning, after⟩ => ⟨not_fault_of_turning turning, after⟩⟩
    exact ((scanJudged_faultsLatched s k).taken after).resolve_left (by simp [before])
  rw [← latched, scanCauses]
  cases crossed (scanJudged s) <;> simp

/-! ## An event without a prompt cause (R51) -/

/-- A QUIT test composes no report. -/
theorem quitTest_number (s : State) : (quitTest s).sched.counter = s.sched.counter := by
  simp only [quitTest, offerQuit, quitEnded, enterLeft]; repeat' split
  all_goals simp

/-- Without a cause and with E_hand as it was no report is composed, and the pending mark of a station that goes on stands. -/
theorem settle_uncaused (s0 s : State) (hand : (settle s0 0 s).disp.eHand = s0.disp.eHand) :
    (settle s0 0 s).sched.counter = s.sched.counter ∧
      ((settle s0 0 s).sched.coord = s.sched.coord → (settle s0 0 s).sched.prompt = s.sched.prompt) := by
  have formed : eHandOf s = s0.disp.eHand := by simpa using hand
  simp only [settle]
  generalize hu : (if speedTargetDue s0 (reform s) then formNt (reform s) else reform s) = u
  have sched : u.sched = s.sched := by subst hu; split <;> simp
  have eHand : u.disp.eHand = s0.disp.eHand := by
    rw [← formed]; subst hu; split
    · rw [formNt_disp]; rfl
    · rfl
  have silent : promptCauses (0 + if (s0.disp.eHand != u.disp.eHand) = true then 1 else 0) u = u := by simp [eHand, promptCauses]
  rw [silent, ← sched]
  split
  · refine ⟨quitTest_number u, fun stays => ?_⟩
    rw [(quitTest_staying u stays).1]
  · exact ⟨rfl, fun _ => rfl⟩

/-- The crossing as the statement says it (R51). -/
theorem crossed_iff (s : State) :
    crossed s = true ↔ ∃ z side, s.acq.pub.river.working = some z ∧ s.sched.riverSide = some side ∧
      (if s.cfg.sClose ≤ z then RiverSide.atOrAbove else .below) ≠ side := by
  unfold crossed
  split
  case h_1 z side river held => simp [river, held, sideOf]
  case h_2 absent =>
    refine iff_of_false (by simp) ?_
    rintro ⟨z, side, river, held, -⟩
    exact absent z side river held

/-- Settles O20: the causes counted by `scanCauses` are the crossing and the latches (`scanCauses_pos`), and `settle` adds a changed
E_hand. -/
theorem aRiverCrossingIsAPromptCause : Obligations.ARiverCrossingIsAPromptCause := by
  intro c s scan config reporting
  refine ⟨_, scanCompletion_with s c scan config, ?_⟩
  have same : SameReports s (followRiver (scanJudged s)) := (scanJudged_sameReports s).trans (followRiver_sameReports _)
  have coord : (followRiver (scanJudged s)).sched.coord = s.sched.coord := by rw [same.sched]
  have reports : (followRiver (scanJudged s)).reporting = true := by rw [State.reporting, coord]; exact reporting
  generalize ht : settle s (scanCauses s) (followRiver (scanJudged s)) = t
  have isIn : ∀ k, t.isIn k .fault = (scanJudged s).isIn k .fault := fun k => by
    subst ht; simp [State.isIn, State.chanState, State.chan]
  have river : (∃ z side, t.acq.pub.river.working = some z ∧ s.sched.riverSide = some side ∧
      (if c.sClose ≤ z then RiverSide.atOrAbove else .below) ≠ side) ↔ crossed (scanJudged s) = true := by
    obtain ⟨ctl, -, sched, -⟩ := scanJudged_frame s
    have cfg : (scanJudged s).cfg = c := by simp [State.cfg, ctl, config]
    have acq : t.acq = (scanJudged s).acq := by subst ht; simp
    rw [crossed_iff, cfg, sched, acq]
  simp only [isIn, river]
  have causes := scanCauses_pos s
  refine ⟨fun coordinating => ?coordinating, fun cause stays => ?prompted, ?quit, fun none => ?quiet⟩
  case coordinating => subst ht; exact (settle_coordinating _ _ _ (coord.trans coordinating)).1
  case prompted =>
    subst ht
    refine (settle_prompted s _ _ reports ?_ (stays.trans coord.symm)).before same
    rcases cause with crossing | latched | changed
    · exact .inl (causes.2 (.inl crossing))
    · exact .inl (causes.2 (.inr latched))
    · exact .inr changed.symm
  case quit => subst ht; exact settle_quitTested _ _ _ coord (by rw [same.sched]) same.state same.quit
  case quiet =>
    simp only [not_or, not_not] at none
    obtain ⟨noCrossing, noLatch, hand⟩ := none
    have zero : scanCauses s = 0 := Nat.eq_zero_of_not_pos fun some => (causes.1 some).elim noCrossing noLatch
    rw [zero] at ht
    subst ht
    obtain ⟨counter, prompt⟩ := settle_uncaused s (followRiver (scanJudged s)) hand
    rw [coord] at prompt
    rw [same.sched] at counter prompt
    exact ⟨counter, prompt⟩

end Sys2Proof.Machine
end

section
/-! PROOFS. Governing stage, river allowance and net allowance, and the publication of a completed computation (chapter 4, with
sections 5.1, 5.6 and 6.4). -/
namespace Sys2Proof.Machine

/-! ## The river allowance (O39) -/

/-- An image that passes validation has S_free below S_close (R177). -/
theorem validate_stages (strap : Nat) (img : List Byte) (h : validate strap img = none) :
    s16At img 6 < s16At img 8 := by
  have check := (firstFailure_none_iff _).1 h (_, .stages) (List.mem_of_getElem? (i := 3) rfl)
  simpa using check

/-- The span of the stages between which the allowance falls (R71). -/
def stageSpan (c : StationConfig) : Nat := (c.sClose - c.sFree).toNat

/-- The part of the span that a stage leaves up to S_close: the whole span at or below S_free, nothing from S_close on. -/
def stageRoom (c : StationConfig) (z : Int) : Nat := min (c.sClose - z).toNat (stageSpan c)

/-- The three parts of the allowance are one floored line over the room of the stage (R71, R72). -/
theorem allowanceAt_eq_room (c : StationConfig) (z : Int) (order : c.sFree < c.sClose) :
    allowanceAt c z = aFullRead c * stageRoom c z / stageSpan c := by
  have span : 0 < stageSpan c := by unfold stageSpan; omega
  unfold allowanceAt
  split
  case isTrue free =>
    have room : stageRoom c z = stageSpan c := by simp only [stageRoom, stageSpan]; omega
    rw [room, Nat.mul_div_cancel _ span]
  split
  case isTrue closed =>
    have room : stageRoom c z = 0 := by simp only [stageRoom]; omega
    rw [room, mul_zero, Nat.zero_div]
  case isFalse above below =>
    have room : stageRoom c z = (c.sClose - z).toNat := by simp only [stageRoom, stageSpan]; omega
    rw [room]; rfl

/-- A stage 1 mm higher has the same room or 1 mm less. -/
theorem stageRoom_succ (c : StationConfig) (z : Int) :
    stageRoom c (z + 1) ≤ stageRoom c z ∧ stageRoom c z ≤ stageRoom c (z + 1) + 1 := by
  simp only [stageRoom]; omega

/-- A floored quotient grows with its dividend by at most the ceiling of the quotient of the growth. -/
theorem add_div_le_div_add_ceil (a b : Nat) {n : Nat} (pos : 0 < n) : (a + b) / n ≤ a / n + (b + n - 1) / n := by
  have floor : a < n * (a / n + 1) := Nat.lt_mul_div_succ a pos
  have ceil : b + n - 1 < n * ((b + n - 1) / n + 1) := Nat.lt_mul_div_succ _ pos
  refine Nat.le_of_lt_succ ((Nat.div_lt_iff_lt_mul pos).2 ?_)
  simp only [Nat.add_mul, Nat.succ_eq_add_one, Nat.mul_comm n] at floor ceil ⊢
  omega

/-- The allowance never rises with the stage, and a step of 1 mm lowers it by at most the ceiling of the slope (R71, R72). -/
theorem allowanceAt_step (c : StationConfig) (z : Int) (order : c.sFree < c.sClose) :
    allowanceAt c (z + 1) ≤ allowanceAt c z ∧
      allowanceAt c z ≤ allowanceAt c (z + 1) + (aFullRead c + stageSpan c - 1) / stageSpan c := by
  have span : 0 < stageSpan c := by unfold stageSpan; omega
  obtain ⟨less, most⟩ := stageRoom_succ c z
  rw [allowanceAt_eq_room c z order, allowanceAt_eq_room c (z + 1) order]
  refine ⟨Nat.div_le_div_right (Nat.mul_le_mul_left _ less), ?_⟩
  calc aFullRead c * stageRoom c z / stageSpan c
      ≤ (aFullRead c * stageRoom c (z + 1) + aFullRead c) / stageSpan c :=
        Nat.div_le_div_right (Nat.mul_le_mul_left _ most)
    _ ≤ _ := add_div_le_div_add_ceil _ _ span

/-- Between the two stages the allowance is the floor of the line, and below A_full (R71, R72). -/
theorem allowanceAt_between (c : StationConfig) (z : Int) (above : c.sFree < z) (below : z < c.sClose) :
    stageSpan c * allowanceAt c z ≤ aFullRead c * (c.sClose - z).toNat ∧
      aFullRead c * (c.sClose - z).toNat < stageSpan c * (allowanceAt c z + 1) ∧
      (0 < aFullRead c → allowanceAt c z < aFullRead c) := by
  have span : 0 < stageSpan c := by unfold stageSpan; omega
  have line : allowanceAt c z = aFullRead c * (c.sClose - z).toNat / stageSpan c := by
    rw [allowanceAt, if_neg (by omega), if_neg (by omega)]; rfl
  rw [line]
  refine ⟨Nat.mul_div_le _ _, Nat.lt_mul_div_succ _ span, fun full => (Nat.div_lt_iff_lt_mul span).2 ?_⟩
  exact Nat.mul_lt_mul_of_pos_left (by unfold stageSpan; omega) full

/-- Settles O39: the parts follow from the floored line over the room of the stage, `allowanceAt_eq_room`. -/
theorem theAllowanceFallsFromTheFreeToTheClosureStage : Obligations.TheAllowanceFallsFromTheFreeToTheClosureStage := by
  refine ⟨fun strap img valid => ⟨validate_stages strap img valid, (s16At_bounds img 6).1, (s16At_bounds img 8).2⟩, ?_⟩
  intro c z order low high full
  have read : full = aFullRead c := rfl
  have most : aFullRead c ≤ 60000 := Nat.min_le_right _ _
  have span : ((stageSpan c : Nat) : Int) = c.sClose - c.sFree := Int.toNat_of_nonneg (by omega)
  have pos : 0 < stageSpan c := by omega
  obtain ⟨falls, step⟩ := allowanceAt_step c z order
  rw [read, ← span]
  refine ⟨fun free => if_pos free, fun closed => ?closed, fun above below => ?between, ?most, ?step, falls⟩
  case closed => rw [allowanceAt, if_neg (by omega), if_pos closed]
  case between =>
    have room : (((c.sClose - z).toNat : Nat) : Int) = c.sClose - z := Int.toNat_of_nonneg (by omega)
    obtain ⟨atLeast, under, less⟩ := allowanceAt_between c z above below
    rw [← room]
    refine ⟨⟨by exact_mod_cast atLeast, by exact_mod_cast under⟩, ?product, by norm_num,
      fun positive => ?less, fun short last => ?last⟩
    case product =>
      have : aFullRead c * (c.sClose - z).toNat ≤ 60000 * 65534 := Nat.mul_le_mul most (by omega)
      omega
    case less => exact Nat.le_sub_one_of_lt (less positive)
    case last =>
      have one : (c.sClose - z).toNat = 1 := by omega
      rw [one, mul_one] at atLeast
      by_contra more
      have : stageSpan c ≤ stageSpan c * allowanceAt c z := Nat.le_mul_of_pos_right _ (Nat.pos_of_ne_zero more)
      omega
  case most =>
    rw [allowanceAt_eq_room c z order]
    exact Nat.div_le_of_le_mul (by rw [mul_comm]; exact Nat.mul_le_mul_right _ (Nat.min_le_right _ _))
  case step =>
    have ceil : ((aFullRead c : Int) + stageSpan c - 1) / stageSpan c
        = ((aFullRead c + stageSpan c - 1) / stageSpan c : Nat) := by
      rw [Int.natCast_ediv, Nat.cast_sub (by omega)]; push_cast; rfl
    rw [ceil]
    omega

/-! ## The governing stage and the net allowance (O38) -/

/-- A list without entries has no largest. -/
theorem largest_eq_none_iff (l : List Int) : largest l = none ↔ l = [] := by
  cases l with
  | nil => simp [largest]
  | cons x l => simp only [largest]; split <;> simp

/-- The largest of a list is its maximum. -/
theorem largest_is_max {l : List Int} {m : Int} (h : largest l = some m) : m ∈ l ∧ ∀ y ∈ l, y ≤ m := by
  induction l generalizing m with
  | nil => simp [largest] at h
  | cons x l ih =>
    simp only [largest] at h
    split at h
    case h_1 absent =>
      obtain rfl := (largest_eq_none_iff l).1 absent
      simp_all
    case h_2 y rest =>
      obtain ⟨mem, bound⟩ := ih rest
      obtain rfl : max x y = m := by simpa using h
      refine ⟨?_, ?_⟩
      · rcases max_choice x y with e | e <;> simp [e, mem]
      · simp only [List.mem_cons, forall_eq_or_imp]
        exact ⟨le_max_left _ _, fun z hz => (bound z hz).trans (le_max_right _ _)⟩

/-- The stage that a peer record offers: the valid one of a FRESH or AGED record without mismatch (R68). -/
theorem peerCandidate_eq_some_iff (r : PeerRecord) (z : Int) :
    peerCandidate r = some z ↔ ∃ p, r.report = some p ∧ (r.status = .fresh ∨ r.status = .aged) ∧ r.mismatch = false ∧
      p.river = z ∧ z ≠ -32768 := by
  have offering : (heard r && !r.mismatch) = true ↔ (r.status = .fresh ∨ r.status = .aged) ∧ r.mismatch = false := by
    simp [heard]
  unfold peerCandidate
  split
  case isFalse silent =>
    rw [offering] at silent
    refine iff_of_false (by simp) ?_
    rintro ⟨p, -, status, mismatch, -⟩
    exact silent ⟨status, mismatch⟩
  case isTrue offers =>
    obtain ⟨status, mismatch⟩ := offering.1 offers
    cases r.report with
    | none => simp
    | some p =>
      have valid : (-32768 : Int) = Config.invalidLevel := rfl
      simp only [Option.some.injEq, exists_eq_left', status, mismatch, true_and, valid]
      split
      case isTrue invalid =>
        refine iff_of_false (by simp) ?_
        rintro ⟨rfl, other⟩
        exact other invalid
      case isFalse other =>
        rw [Option.some.injEq]
        exact ⟨fun same => ⟨same, same ▸ other⟩, And.left⟩

/-- The candidates: the own usable stage and those that the records offer (R68). -/
theorem mem_candidates (x : Snapshot) (z : Int) :
    z ∈ candidates x ↔ x.river = some z ∨ ∃ r ∈ x.records, ∃ p, r.report = some p ∧
      (r.status = .fresh ∨ r.status = .aged) ∧ r.mismatch = false ∧ p.river = z ∧ z ≠ -32768 := by
  simp only [candidates, List.mem_append, Option.mem_toList, List.mem_filterMap, peerCandidate_eq_some_iff]

/-- With a candidate the governing stage is the highest one, KNOWN and not BLIND (R68, R69). -/
theorem evaluate_found (c : StationConfig) (x : Snapshot) (held : Allowance) {z : Int} (offered : z ∈ candidates x) :
    ∃ y, (evaluate c x held).stage = some y ∧ y ∈ candidates x ∧ (∀ w ∈ candidates x, w ≤ y) ∧
      (evaluate c x held).known = true ∧ (evaluate c x held).blind = false := by
  obtain ⟨y, found⟩ := Option.ne_none_iff_exists'.1 fun absent =>
    List.ne_nil_of_mem offered ((largest_eq_none_iff _).1 absent)
  obtain ⟨mem, bound⟩ := largest_is_max found
  exact ⟨y, by simp [evaluate, found], mem, bound, by simp [evaluate, found], by simp [evaluate, found]⟩

/-- Without a candidate the evaluation is BLIND, and the stage is the held one when KNOWN and S_close when not (R69, R70). -/
theorem evaluate_blind (c : StationConfig) (x : Snapshot) (held : Allowance) (absent : candidates x = []) :
    (evaluate c x held).blind = true ∧ (evaluate c x held).known = held.known ∧ (evaluate c x held).candidates = 0 ∧
      (evaluate c x held).stage = some (if held.known then held.stage.getD c.sClose else c.sClose) := by
  simp [evaluate, absent, largest]

/-- Settles O38: with a candidate by `evaluate_found`, without one by `evaluate_blind`; the allowance, F and A_net are the
evaluation's own. -/
theorem theGoverningStageIsTheHighestCandidate : Obligations.TheGoverningStageIsTheHighestCandidate := by
  intro c x held offers e
  have offered : ∀ z, offers z ↔ z ∈ candidates x := fun z => (mem_candidates x z).symm
  simp only [offered]
  refine ⟨fun ⟨_, found⟩ => evaluate_found c x held found, fun absent => ?blind, _, _, _,
    rfl, rfl, rfl, rfl, rfl, ?net, ?contribution⟩
  case blind =>
    obtain ⟨blind, known, count, stage⟩ :=
      evaluate_blind c x held (List.eq_nil_iff_forall_not_mem.2 fun z found => absent ⟨z, found⟩)
    refine ⟨blind, known, count, fun holds stands => ?_, fun unknown => ?_⟩
    · obtain ⟨z, kept⟩ := Option.isSome_iff_exists.1 stands
      rw [stage, holds, kept]; rfl
    · rw [stage, unknown]; rfl
  case net =>
    have floored : ∀ a f : Nat, a - f = if f < a then a - f else 0 := fun a f => by split <;> omega
    exact congrArg some (floored _ _)
  case contribution =>
    intro r
    unfold contribution
    cases r.report with
    | none => rfl
    | some p => cases r.status <;> rfl

/-! ## The completion of a computation (O37) -/

/-- A start request leaves the table (R120). -/
@[simp] theorem startRequest_table (s : State) (k : Chan) : (startRequest s k).disp.table = s.disp.table := by
  simp only [startRequest]; repeat' split
  all_goals simp [moveChan]

/-- The decision of a completion orders channels and the own notice: the other blocks, the scheduler and the table stand
(R106 to R110). -/
@[simp] theorem decide4_frame (s : State) :
    (decide4 s).ctl = s.ctl ∧ (decide4 s).acq = s.acq ∧ (decide4 s).sched = s.sched ∧ (decide4 s).view = s.view ∧
      (decide4 s).allow = s.allow ∧ (decide4 s).alloc = s.alloc ∧ (decide4 s).sup = s.sup ∧
      (decide4 s).maint = s.maint ∧ (decide4 s).pending = s.pending ∧ (decide4 s).disp.table = s.disp.table := by
  simp only [decide4, forChans]; repeat' split
  all_goals simp

/-- The decision and the end of its event leave what the completion published, and in the allocation unit stop at most its
timer (R56). -/
theorem dispatchAct_frame (s : State) :
    (dispatchAct s).ctl = s.ctl ∧ (dispatchAct s).acq = s.acq ∧ (dispatchAct s).allow = s.allow ∧
      (dispatchAct s).sup = s.sup ∧ (dispatchAct s).maint = s.maint ∧ (dispatchAct s).disp.table = s.disp.table ∧
      (dispatchAct s).alloc = { s.alloc with timer := (dispatchAct s).alloc.timer } := by
  have table : (dispatchAct s).disp.table = s.disp.table := by rw [dispatchAct, formNt_disp]; simp
  have alloc : (dispatchAct s).alloc = { s.alloc with timer := (dispatchAct s).alloc.timer } := by
    have formed : (dispatchAct s).alloc = (settle s 0 (decide4 s)).alloc := by simp [dispatchAct]
    rw [formed, settle_alloc]; simp
  exact ⟨by simp [dispatchAct], by simp [dispatchAct], by simp [dispatchAct], by simp [dispatchAct], by simp [dispatchAct],
    table, alloc⟩

/-- A completion with no latch on its way: the figures are published, and a station that composes reports decides (R81, R106). -/
theorem allocationCompletion_eq {s : State} {x : Snapshot} (computing : s.alloc.snapshot = some x) (quiet : NoneOffered s) :
    exec .allocationCompletion s =
      .next (if s.reporting then dispatchAct (publishAllocation s x) else publishAllocation s x) := by
  have published : NoneOffered (publishAllocation s x) := quiet
  have decided : NoneOffered (dispatchAct (publishAllocation s x)) := by
    obtain ⟨-, -, -, sup, -⟩ := dispatchAct_frame (publishAllocation s x)
    unfold NoneOffered
    rw [sup]; exact quiet
  have run : exec .allocationCompletion s = .next (latchesArrive
      (if s.reporting then dispatchAct (publishAllocation s x) else publishAllocation s x)) := by
    simp only [exec, execAllocationCompletion, computing]; rfl
  rw [run]
  split
  · rw [latchesArrive_none _ decided]
  · rw [latchesArrive_none _ published]

/-- Settles O37: the completion publishes, and the decision of a station that composes reports leaves what was published. -/
theorem theCompletionPublishesTheComputationOfItsSnapshot :
    Obligations.TheCompletionPublishesTheComputationOfItsSnapshot := by
  intro x s computing e r quiet
  refine ⟨_, allocationCompletion_eq computing quiet, ?_⟩
  split
  case isTrue reporting =>
    obtain ⟨ctl, acq, allow, sup, maint, table, alloc⟩ := dispatchAct_frame (publishAllocation s x)
    rw [alloc]
    exact ⟨allow, rfl, rfl, rfl, rfl, rfl, rfl, rfl, fun silent => absurd reporting (by simp [silent]),
      ctl, acq, sup, maint, table⟩
  case isFalse =>
    exact ⟨rfl, rfl, rfl, rfl, rfl, rfl, rfl, rfl, fun _ => rfl, rfl, rfl, rfl, rfl, rfl⟩

end Sys2Proof.Machine
end

section
/-! PROOFS. The grants of an allocation: the capped first pass and the remainder handed out by urgency (section 5.5). -/
namespace Sys2Proof.Machine

/-! ## The first pass (R89, R90) -/

/-- The first-pass figure of a member, capped at its demand (R89, R90). -/
def cappedFigure (net : Nat) (ms : List Member) (m : Member) : Nat :=
  if weightSum ms = 0 then 0 else min (net * weight m / weightSum ms) m.demand

/-- The first pass gives each member its capped figure. -/
theorem firstPass_eq (net : Nat) (ms : List Member) :
    firstPass net ms = ms.map fun m => ⟨m, cappedFigure net ms m⟩ := rfl

/-- The cap holds (R90). -/
theorem cappedFigure_le_demand (net : Nat) (ms : List Member) (m : Member) : cappedFigure net ms m ≤ m.demand := by
  unfold cappedFigure
  split
  · exact Nat.zero_le _
  · exact Nat.min_le_right _ _

/-- A capped figure is at most the member's part of the net allowance by weight (R89). -/
theorem weightSum_mul_cappedFigure_le (net : Nat) (ms : List Member) (m : Member) :
    weightSum ms * cappedFigure net ms m ≤ net * weight m := by
  unfold cappedFigure
  split
  · exact Nat.zero_le _
  · exact (Nat.mul_le_mul_left _ (Nat.min_le_left _ _)).trans (Nat.mul_div_le _ _)

/-- The first pass keeps the members in their order. -/
@[simp] theorem firstPass_members (net : Nat) (ms : List Member) : (firstPass net ms).map (·.member) = ms := by
  simp [firstPass_eq, Function.comp_def]

/-- What the first pass grants is the capped figure. -/
theorem grant_of_mem_firstPass {net : Nat} {ms : List Member} {x : Granted} (mem : x ∈ firstPass net ms) :
    x.grant = cappedFigure net ms x.member := by
  rw [firstPass_eq] at mem
  obtain ⟨m, -, rfl⟩ := List.mem_map.1 mem
  rfl

/-- The first pass never exceeds the net allowance, so the remainder is the difference (R90). -/
theorem grantSum_firstPass_le (net : Nat) (ms : List Member) : grantSum (firstPass net ms) ≤ net := by
  have sum : grantSum (firstPass net ms) = (ms.map (cappedFigure net ms)).sum := by
    simp [grantSum, firstPass_eq, Function.comp_def]
  rcases Nat.eq_zero_or_pos (weightSum ms) with weightless | pos
  · have zero : cappedFigure net ms = fun _ => 0 := funext fun _ => if_pos weightless
    simp [sum, zero]
  · refine Nat.le_of_mul_le_mul_left ?_ pos
    calc weightSum ms * grantSum (firstPass net ms)
        = (ms.map fun m => weightSum ms * cappedFigure net ms m).sum := by rw [sum, List.sum_map_mul_left]
      _ ≤ (ms.map fun m => net * weight m).sum :=
          List.sum_le_sum fun m _ => weightSum_mul_cappedFigure_le net ms m
      _ = weightSum ms * net := by rw [List.sum_map_mul_left, Nat.mul_comm]; rfl

/-! ## The order of the second pass (R91) -/

/-- One member is taken strictly before another: the higher urgency, then the lower station number (R91). -/
def Member.Precedes (m n : Member) : Prop := n.urgency < m.urgency ∨ (n.urgency = m.urgency ∧ m.station < n.station)

/-- A grant keeps its place unless the next one's member is taken strictly before its own. -/
theorem comesBefore_iff (a b : Granted) : comesBefore a b = true ↔ ¬ b.member.Precedes a.member := by
  simp only [comesBefore, Member.Precedes, Bool.or_eq_true, Bool.and_eq_true, decide_eq_true_eq, beq_iff_eq]
  omega

/-- The place of a member in the second pass is that of an insertion sort. -/
theorem insertGranted_eq (x : Granted) (l : List Granted) :
    insertGranted x l = l.orderedInsert (fun a b => comesBefore a b = true) x := by
  induction l with
  | nil => rfl
  | cons y rest ih => rw [insertGranted, List.orderedInsert_cons, ih]

/-- The second pass takes the members sorted by the order of R91. -/
theorem secondOrder_eq (gs : List Granted) :
    secondOrder gs = gs.insertionSort fun a b => comesBefore a b = true := by
  induction gs with
  | nil => rfl
  | cons x rest ih => rw [List.insertionSort_cons, ← ih, ← insertGranted_eq]; rfl

/-- The second pass takes every member once. -/
theorem secondOrder_perm (gs : List Granted) : (secondOrder gs).Perm gs := by
  rw [secondOrder_eq]; exact List.perm_insertionSort _ gs

/-- No member of the second pass is taken strictly before one that stands in front of it. -/
theorem secondOrder_sorted (gs : List Granted) :
    (secondOrder gs).Pairwise fun a b => ¬ b.member.Precedes a.member := by
  have total : Std.Total fun a b : Granted => comesBefore a b = true :=
    ⟨fun a b => by simp only [comesBefore_iff, Member.Precedes]; omega⟩
  have trans : IsTrans Granted fun a b => comesBefore a b = true :=
    ⟨fun a b c => by simp only [comesBefore_iff, Member.Precedes]; omega⟩
  rw [secondOrder_eq]
  exact (List.pairwise_insertionSort _ gs).imp fun {a b} => (comesBefore_iff a b).1

/-! ## The second pass (R91) -/

/-- The demand that a list of grants leaves unmet. -/
def unmetSum (gs : List Granted) : Nat := (gs.map fun x => x.member.demand - x.grant).sum

/-- Grants within the demands and the unmet demand make up ΣD. -/
theorem grantSum_add_unmetSum {gs : List Granted} (within : ∀ x ∈ gs, x.grant ≤ x.member.demand) :
    grantSum gs + unmetSum gs = demandSum (gs.map (·.member)) := by
  rw [grantSum, unmetSum, ← List.sum_map_add, demandSum, List.map_map]
  exact congrArg List.sum (List.map_congr_left fun x mem => Nat.add_sub_cancel' (within x mem))

/-- The second pass keeps the members in the order in which it takes them. -/
@[simp] theorem handOut_members (r : Nat) (gs : List Granted) :
    (handOut r gs).map (·.member) = gs.map (·.member) := by
  induction gs generalizing r with
  | nil => rfl
  | cons x rest ih => simp [handOut, ih]

/-- Each grant of the second pass raises a first-pass grant of the same member, within the demand. -/
theorem handOut_raises {r : Nat} {gs : List Granted} {y : Granted} (mem : y ∈ handOut r gs) :
    ∃ x ∈ gs, y.member = x.member ∧ x.grant ≤ y.grant ∧ (x.grant ≤ x.member.demand → y.grant ≤ y.member.demand) := by
  induction gs generalizing r with
  | nil => simp [handOut] at mem
  | cons x rest ih =>
    rcases List.mem_cons.1 mem with rfl | later
    · exact ⟨x, List.mem_cons_self, rfl, Nat.le_add_right _ _, fun _ => by dsimp only; omega⟩
    · obtain ⟨z, found, raised⟩ := ih later
      exact ⟨z, List.mem_cons_of_mem _ found, raised⟩

/-- The second pass hands out its remainder, as far as there is unmet demand. -/
theorem grantSum_handOut (r : Nat) (gs : List Granted) :
    grantSum (handOut r gs) = grantSum gs + min r (unmetSum gs) := by
  induction gs generalizing r with
  | nil => simp [handOut, grantSum, unmetSum]
  | cons x rest ih =>
    have tail := ih (r - min r (x.member.demand - x.grant))
    simp only [handOut, grantSum, unmetSum, List.map_cons, List.sum_cons] at tail ⊢
    omega

/-- Without a remainder the second pass raises no grant. -/
theorem handOut_zero (gs : List Granted) : handOut 0 gs = gs := by
  induction gs with
  | nil => rfl
  | cons x rest ih => simp [handOut, ih]

/-- A member that the second pass raises is taken after members with their full demand only: of two in the order of the
pass, the first is full when the second has more than its figure. -/
theorem handOut_fills_in_order {figure : Member → Nat} {gs : List Granted} (r : Nat)
    (within : ∀ x ∈ gs, x.grant ≤ x.member.demand) (figures : ∀ x ∈ gs, x.grant = figure x.member) :
    (handOut r gs).Pairwise fun x y => figure y.member < y.grant → x.grant = x.member.demand := by
  induction gs generalizing r with
  | nil => exact .nil
  | cons x rest ih =>
    simp only [List.forall_mem_cons] at within figures
    refine List.pairwise_cons.2 ⟨fun y later raised => ?_, ih _ within.2 figures.2⟩
    by_cases full : x.member.demand - x.grant ≤ r
    · show x.grant + min r (x.member.demand - x.grant) = x.member.demand
      omega
    · have used : r - min r (x.member.demand - x.grant) = 0 := by omega
      rw [used, handOut_zero] at later
      exact absurd (figures.2 y later) (by omega)

/-! ## The grants (O41) -/

/-- When the demands fit, each member has its demand (R88). -/
theorem grants_of_fit {net : Nat} {ms : List Member} (fit : demandSum ms ≤ net) :
    grants net ms = ms.map fun m => ⟨m, m.demand⟩ := if_pos fit

/-- When they do not fit, the two passes are made (R89 to R91). -/
theorem grants_of_excess {net : Nat} {ms : List Member} (excess : net < demandSum ms) :
    grants net ms = handOut (net - grantSum (firstPass net ms)) (secondOrder (firstPass net ms)) :=
  if_neg (Nat.not_le.2 excess)

/-- The second pass starts from the capped figures. -/
theorem grant_of_mem_secondOrder {net : Nat} {ms : List Member} {x : Granted}
    (mem : x ∈ secondOrder (firstPass net ms)) : x.grant = cappedFigure net ms x.member :=
  grant_of_mem_firstPass ((secondOrder_perm _).mem_iff.1 mem)

/-- The second pass starts from grants within the demands. -/
theorem grant_le_demand_of_mem_secondOrder {net : Nat} {ms : List Member} {x : Granted}
    (mem : x ∈ secondOrder (firstPass net ms)) : x.grant ≤ x.member.demand :=
  (grant_of_mem_secondOrder mem).trans_le (cappedFigure_le_demand net ms _)

/-- Every member has one grant. -/
theorem grants_members_perm (net : Nat) (ms : List Member) : ((grants net ms).map (·.member)).Perm ms := by
  rcases Nat.lt_or_ge net (demandSum ms) with excess | fit
  · rw [grants_of_excess excess, handOut_members]
    simpa using (secondOrder_perm (firstPass net ms)).map (·.member)
  · simp [grants_of_fit fit, Function.comp_def]

/-- When the demands fit, each grant is the demand (R88). -/
theorem grant_eq_demand_of_fit {net : Nat} {ms : List Member} (fit : demandSum ms ≤ net) {x : Granted}
    (mem : x ∈ grants net ms) : x.grant = x.member.demand := by
  rw [grants_of_fit fit] at mem
  obtain ⟨m, -, rfl⟩ := List.mem_map.1 mem
  rfl

/-- No grant exceeds its member's demand (R91). -/
theorem grant_le_demand {net : Nat} {ms : List Member} {x : Granted} (mem : x ∈ grants net ms) :
    x.grant ≤ x.member.demand := by
  rcases Nat.lt_or_ge net (demandSum ms) with excess | fit
  · rw [grants_of_excess excess] at mem
    obtain ⟨y, first, -, -, within⟩ := handOut_raises mem
    exact within (grant_le_demand_of_mem_secondOrder first)
  · exact (grant_eq_demand_of_fit fit mem).le

/-- When the demands do not fit, no grant is below the capped first-pass figure (R91). -/
theorem cappedFigure_le_grant {net : Nat} {ms : List Member} (excess : net < demandSum ms) {x : Granted}
    (mem : x ∈ grants net ms) : cappedFigure net ms x.member ≤ x.grant := by
  rw [grants_of_excess excess] at mem
  obtain ⟨y, first, same, raised, -⟩ := handOut_raises mem
  rwa [same, ← grant_of_mem_secondOrder first]

/-- When the demands do not fit, the net allowance is used to the last unit: the unmet demand exceeds the remainder (R91). -/
theorem grantSum_grants {net : Nat} {ms : List Member} (excess : net < demandSum ms) :
    grantSum (grants net ms) = net := by
  have order := secondOrder_perm (firstPass net ms)
  have sum : grantSum (secondOrder (firstPass net ms)) = grantSum (firstPass net ms) :=
    (order.map Granted.grant).sum_eq
  have demands : demandSum ((secondOrder (firstPass net ms)).map (·.member)) = demandSum ms := by
    have members : ((secondOrder (firstPass net ms)).map (·.member)).Perm ms := by simpa using order.map (·.member)
    exact (members.map Member.demand).sum_eq
  have unmet := grantSum_add_unmetSum (gs := secondOrder (firstPass net ms)) fun _ => grant_le_demand_of_mem_secondOrder
  have bound := grantSum_firstPass_le net ms
  rw [grants_of_excess excess, grantSum_handOut]
  omega

/-- When the demands do not fit, the grants stand in the order of the second pass. -/
theorem grants_sorted {net : Nat} {ms : List Member} (excess : net < demandSum ms) :
    (grants net ms).Pairwise fun a b => ¬ b.member.Precedes a.member := by
  have members : ((grants net ms).map (·.member)).Pairwise fun m n => ¬ n.Precedes m := by
    rw [grants_of_excess excess, handOut_members]
    exact List.pairwise_map.2 (secondOrder_sorted _)
  exact List.pairwise_map.1 members

/-- When a member has more than its capped figure, every member taken before it has its full demand (R91). -/
theorem grant_eq_demand_of_precedes {net : Nat} {ms : List Member} (excess : net < demandSum ms) {x y : Granted}
    (hx : x ∈ grants net ms) (hy : y ∈ grants net ms) (precedes : x.member.Precedes y.member)
    (raised : cappedFigure net ms y.member < y.grant) : x.grant = x.member.demand := by
  have fills := handOut_fills_in_order (net - grantSum (firstPass net ms))
    (fun _ => grant_le_demand_of_mem_secondOrder (net := net) (ms := ms)) fun _ => grant_of_mem_secondOrder
  rw [← grants_of_excess excess] at fills
  have irrefl : ∀ m : Member, ¬ m.Precedes m := fun m => by simp [Member.Precedes]
  exact List.Pairwise.forall_of_forall_of_flip
    (R := fun a b => a.member.Precedes b.member → cappedFigure net ms b.member < b.grant → a.grant = a.member.demand)
    (fun a _ before => absurd before (irrefl _)) (fills.imp fun {a b} full (_ : a.member.Precedes b.member) => full)
    ((grants_sorted excess).imp fun {_ _} behind before => absurd before behind) hx hy precedes raised

/-- Settles O41: the first pass by `grantSum_firstPass_le`, the second by `grantSum_handOut` and `handOut_fills_in_order`. -/
theorem theGrantsUseTheNetAllowanceToTheLastUnit : Obligations.TheGrantsUseTheNetAllowanceToTheLastUnit := by
  intro net ms g
  refine ⟨grants_members_perm net ms, fun x => grant_le_demand, fun fit x => grant_eq_demand_of_fit fit,
    fun excess => ⟨grantSum_grants excess, fun x mem weighted => ?floor, fun x hx y hy precedes raised => ?order⟩⟩
  case floor =>
    have figure := cappedFigure_le_grant excess mem
    rwa [cappedFigure, if_neg (Nat.pos_iff_ne_zero.1 weighted)] at figure
  case order => exact grant_eq_demand_of_precedes excess hx hy precedes raised

end Sys2Proof.Machine
end

section
/-! PROOFS. Urgency, capacity, demand and members of a snapshot, and the own share among the grants (sections 5.2 to 5.4 and
5.6). -/
namespace Sys2Proof.Machine

/-! ## Urgency (R83, R84) -/

/-- Between the two levels the urgency is the floor of the line (R83). -/
theorem urgencyAt_between (c : StationConfig) (l : Int) (above : c.target < l) (below : l < c.alarm) :
    urgencyAt c l ≤ 999 ∧ (urgencyAt c l : Int) * (c.alarm - c.target) ≤ (l - c.target) * 1000 ∧
      (l - c.target) * 1000 < ((urgencyAt c l : Int) + 1) * (c.alarm - c.target) := by
  obtain ⟨span, spanOf⟩ := Int.eq_ofNat_of_zero_le (show 0 ≤ c.alarm - c.target by omega)
  obtain ⟨rise, riseOf⟩ := Int.eq_ofNat_of_zero_le (show 0 ≤ l - c.target by omega)
  have line : urgencyAt c l = rise * 1000 / span := by
    rw [urgencyAt, if_neg (by omega), if_neg (by omega), spanOf, riseOf]; rfl
  have pos : 0 < span := by omega
  rw [line, spanOf, riseOf]
  refine ⟨Nat.le_of_lt_succ ((Nat.div_lt_iff_lt_mul pos).2 (by omega)), ?_, ?_⟩
  · exact_mod_cast Nat.div_mul_le_self _ _
  · exact_mod_cast (Nat.div_lt_iff_lt_mul pos).1 (Nat.lt_succ_self _)

/-- The urgency of a level is at most 1000 (R83). -/
theorem urgencyAt_le (c : StationConfig) (l : Int) : urgencyAt c l ≤ 1000 := by
  by_cases low : l ≤ c.target
  · simp [urgencyAt, low]
  by_cases high : c.alarm ≤ l
  · simp [urgencyAt, low, high]
  · exact (urgencyAt_between c l (by omega) (by omega)).1.trans (by norm_num)

/-- A degraded polder has the urgency 500 (R84). -/
theorem ownUrgency_degraded (c : StationConfig) {x : Snapshot} (degraded : x.degraded = true) : ownUrgency c x = 500 :=
  if_pos degraded

/-- The urgency of a polder that is not degraded is that of its working level (R83). -/
theorem ownUrgency_of_level (c : StationConfig) {x : Snapshot} {l : Int} (sound : x.degraded = false)
    (level : x.level = some l) : ownUrgency c x = urgencyAt c l := by
  simp [ownUrgency, sound, level]

/-- The own urgency is at most 1000 (R83, R84). -/
theorem ownUrgency_le (c : StationConfig) (x : Snapshot) : ownUrgency c x ≤ 1000 := by
  have figure : Config.degradedUrgency ≤ 1000 := by decide
  unfold ownUrgency
  split
  · exact figure
  · split
    · exact urgencyAt_le c _
    · exact figure

/-! ## Capacity and demand (R85, R86) -/

/-- The channels that count in Cav (R85). -/
theorem countsInCav_iff (y : SnapChan) :
    countsInCav y = true ↔ y.fitted = true ∧ y.mode = some .auto ∧ (y.state = some .idle ∨ y.state = some .notice ∨
      y.state = some .starting ∨ y.state = some .running) := by
  simp [countsInCav, and_assoc, or_assoc]

/-- The capacity of a snapshot with each test as a proposition (R85). -/
theorem ownCapacity_eq (x : Snapshot) :
    ownCapacity x = if x.lockout = true ∨ x.coord = some .leaving then 0 else sumChans fun k =>
      let y := quadGet x.chans k
      if y.fitted = true ∧ y.mode = some .auto ∧ (y.state = some .idle ∨ y.state = some .notice ∨
        y.state = some .starting ∨ y.state = some .running) then y.qmax else 0 := by
  simp only [ownCapacity, countsInCav_iff, Bool.or_eq_true, beq_iff_eq]

/-- The demand is the quotient rounded up (R86). -/
theorem demandOf_ceil (cav u : Nat) : cav * u ≤ 1000 * demandOf cav u ∧ 1000 * demandOf cav u < cav * u + 1000 := by
  unfold demandOf; omega

/-- The demand is at most the capacity (R86). -/
theorem demandOf_le {u : Nat} (cav : Nat) (most : u ≤ 1000) : demandOf cav u ≤ cav := by
  have product : cav * u ≤ cav * 1000 := Nat.mul_le_mul_left _ most
  have ceil := (demandOf_ceil cav u).2
  omega

/-- Without urgency or capacity there is no demand (R86). -/
theorem demandOf_eq_zero {cav u : Nat} (nothing : u = 0 ∨ cav = 0) : demandOf cav u = 0 := by
  have product : cav * u = 0 := Nat.mul_eq_zero.2 nothing.symm
  simp [demandOf, product]

/-- At full urgency the demand is the capacity (R86). -/
theorem demandOf_full (cav : Nat) : demandOf cav 1000 = cav := by
  unfold demandOf; omega

/-- With urgency and capacity there is a demand (R86). -/
theorem demandOf_pos {cav u : Nat} (urgent : 0 < u) (able : 0 < cav) : 1 ≤ demandOf cav u := by
  have product : 0 < cav * u := Nat.mul_pos able urgent
  have ceil := (demandOf_ceil cav u).1
  omega

/-! ## Members (R87) -/

/-- The record at the own place gives the own station, when it asks (R87). -/
theorem memberOf_own (own u d : Nat) (y : PeerRecord) (m : Member) :
    memberOf own u d (y, own) = some m ↔ 0 < d ∧ m = ⟨own, u, d⟩ := by
  by_cases asks : 0 < d
  · simp [memberOf, asks, eq_comm]
  · simp [memberOf, asks]

/-- A record at another place gives its station, when it is trusted and its report asks (R87). -/
theorem memberOf_other {own n : Nat} (other : n ≠ own) (u d : Nat) (y : PeerRecord) (m : Member) :
    memberOf own u d (y, n) = some m ↔ ∃ p, y.report = some p ∧ (y.status = .fresh ∨ y.status = .aged) ∧
      y.mismatch = false ∧ 0 < p.demand ∧ m = ⟨n, p.urgency, p.demand⟩ := by
  have trusted : (heard y && !y.mismatch) = true ↔ (y.status = .fresh ∨ y.status = .aged) ∧ y.mismatch = false := by
    simp [heard]
  simp only [memberOf, other, if_false, trusted]
  split
  case isFalse silent =>
    refine iff_of_false (by simp) ?_
    rintro ⟨p, -, status, mismatch, -⟩
    exact silent ⟨status, mismatch⟩
  case isTrue hears =>
    obtain ⟨status, mismatch⟩ := hears
    cases y.report with
    | none => simp
    | some p =>
      by_cases asks : 0 < p.demand
      · simp [asks, status, mismatch, @eq_comm _ _ m]
      · simp [asks]

/-- A member stands for the place of its record (R87). -/
theorem memberOf_station {own u d n : Nat} {y : PeerRecord} {m : Member} (gives : memberOf own u d (y, n) = some m) :
    m.station = n := by
  rcases eq_or_ne n own with rfl | other
  · rw [((memberOf_own n u d y m).1 gives).2]
  · obtain ⟨p, -, -, -, -, rfl⟩ := (memberOf_other other u d y m).1 gives
    rfl

/-- The stations of the members ascend (R87). -/
theorem members_ascending (own u d : Nat) (records : List PeerRecord) :
    (members own u d records).Pairwise fun a b => a.station < b.station := by
  have places : ((records.zipIdx 1).map Prod.snd).Pairwise (· < ·) := by
    rw [List.zipIdx_map_snd]; exact List.pairwise_lt_range' 1
  refine (List.pairwise_map.1 places).filterMap _ fun a b before m gives n gives' => ?_
  rwa [memberOf_station gives, memberOf_station gives']

/-- The members: the own station when it asks, and each other station with a trusted report that asks (R87). -/
theorem mem_members (own u d : Nat) (records : List PeerRecord) (m : Member) :
    m ∈ members own u d records ↔
      (m = ⟨own, u, d⟩ ∧ 0 < d ∧ 1 ≤ own ∧ own ≤ records.length) ∨
      (m.station ≠ own ∧ 1 ≤ m.station ∧ ∃ y p, records[m.station - 1]? = some y ∧ y.report = some p ∧
        (y.status = .fresh ∨ y.status = .aged) ∧ y.mismatch = false ∧ 0 < p.demand ∧
        m.urgency = p.urgency ∧ m.demand = p.demand) := by
  simp only [members, List.mem_filterMap, Prod.exists, List.mk_mem_zipIdx_iff_le_and_getElem?_sub]
  constructor
  · rintro ⟨y, n, ⟨first, at_n⟩, gives⟩
    rcases eq_or_ne n own with rfl | other
    · obtain ⟨asks, figures⟩ := (memberOf_own n u d y m).1 gives
      have last := (List.getElem?_eq_some_iff.1 at_n).1
      exact .inl ⟨figures, asks, first, by omega⟩
    · obtain ⟨p, report, status, mismatch, asks, rfl⟩ := (memberOf_other other u d y m).1 gives
      exact .inr ⟨other, first, y, p, at_n, report, status, mismatch, asks, rfl, rfl⟩
  · rintro (⟨figures, asks, first, last⟩ | ⟨other, first, y, p, at_m, report, status, mismatch, asks, urgency, demand⟩)
    · have within : own - 1 < records.length := by omega
      exact ⟨_, own, ⟨first, List.getElem?_eq_getElem within⟩, (memberOf_own ..).2 ⟨asks, figures⟩⟩
    · exact ⟨y, m.station, ⟨first, at_m⟩, (memberOf_other other ..).2
        ⟨p, report, status, mismatch, asks, by rw [← urgency, ← demand]⟩⟩

/-- A member of the own number has the own figures (R87). -/
theorem own_member_figures {own u d : Nat} {records : List PeerRecord} {m : Member} (mem : m ∈ members own u d records)
    (same : m.station = own) : m = ⟨own, u, d⟩ := by
  rcases (mem_members own u d records m).1 mem with ⟨figures, -⟩ | ⟨other, -⟩
  · exact figures
  · exact absurd same other

/-! ## The own grant and the share (R92 to R94) -/

/-- The own grant is that of a grant to the own station, and 0 when there is none (R92). -/
theorem ownGrant_cases (own : Nat) (gs : List Granted) :
    (∃ y ∈ gs, y.member.station = own ∧ y.grant = ownGrant own gs) ∨
      ((∀ y ∈ gs, y.member.station ≠ own) ∧ ownGrant own gs = 0) := by
  unfold ownGrant
  split
  case h_1 y found =>
    exact .inl ⟨y, List.mem_of_find?_eq_some found, by simpa using List.find?_some found, rfl⟩
  case h_2 absent =>
    exact .inr ⟨by simpa using absent, rfl⟩

/-- Who has a grant is a member. -/
theorem member_of_mem_grants {net : Nat} {ms : List Member} {y : Granted} (mem : y ∈ grants net ms) : y.member ∈ ms :=
  (grants_members_perm net ms).mem_iff.1 (List.mem_map_of_mem mem)

/-- The own grant of an allocation over the members of a view is at most the own demand (R91, R92). -/
theorem ownGrant_le (own u d net : Nat) (records : List PeerRecord) :
    ownGrant own (grants net (members own u d records)) ≤ d := by
  rcases ownGrant_cases own (grants net (members own u d records)) with ⟨y, granted, same, grant⟩ | ⟨-, zero⟩
  · have figures := own_member_figures (member_of_mem_grants granted) same
    have within := grant_le_demand granted
    rwa [figures, grant] at within
  · simp [zero]

/-- With a demand the own station, if the view has a place for it, is granted its own grant (R87, R92). -/
theorem exists_own_grant {own d : Nat} (u net : Nat) {records : List PeerRecord} (asks : 0 < d) (first : 1 ≤ own)
    (last : own ≤ records.length) :
    ∃ y ∈ grants net (members own u d records), y.member.station = own ∧
      y.grant = ownGrant own (grants net (members own u d records)) := by
  refine (ownGrant_cases own _).resolve_right fun ⟨absent, _⟩ => ?_
  have member : ⟨own, u, d⟩ ∈ members own u d records := (mem_members ..).2 (.inl ⟨rfl, asks, first, last⟩)
  obtain ⟨y, granted, same⟩ := List.mem_map.1 ((grants_members_perm net _).mem_iff.2 member)
  exact absent y granted (by rw [same])

/-- The isolated condition: a LOST record or a port that is not ACTIVE (R93). -/
theorem isolatedIn_iff (x : Snapshot) :
    isolatedIn x = true ↔ x.port ≠ .active ∨ ∃ y ∈ x.records, y.status = .lost := by
  simp [isolatedIn, or_comm]

/-- From the closure stage the share is 0 (R94). -/
theorem shareOf_closed {c : StationConfig} {z : Int} (closed : c.sClose ≤ z) (isolated : Bool) (grant d : Nat) :
    shareOf c isolated z grant d = 0 := if_pos closed

/-- Below the closure stage the share is the own grant, in the isolated condition raised to the assured share (R92, R93). -/
theorem shareOf_open {c : StationConfig} {z : Int} (below : z < c.sClose) (isolated : Bool) (grant d : Nat) :
    shareOf c isolated z grant d = if isolated then max grant (min c.qAssured d) else grant :=
  if_neg (Int.not_le.2 below)

/-- The share is within the demand when the own grant is (R94). -/
theorem shareOf_le (c : StationConfig) (isolated : Bool) (z : Int) {grant d : Nat} (within : grant ≤ d) :
    shareOf c isolated z grant d ≤ d := by
  rcases lt_or_ge z c.sClose with below | closed
  · rw [shareOf_open below]
    split
    · exact max_le within (min_le_right _ _)
    · exact within
  · simp [shareOf_closed closed]

/-! ## The computation of a snapshot (O40) -/

/-- Settles O40: the figures by the sections above; the own grant is found among the grants by `exists_own_grant` and is within
the demand by `ownGrant_le`. -/
theorem urgencyCapacityAndDemandOfASnapshot : Obligations.UrgencyCapacityAndDemandOfASnapshot := by
  intro c x e _ r
  have grant : ownGrant c.station (grants (e.net.getD 0) (members c.station r.urgency r.demand x.records)) ≤ r.demand :=
    ownGrant_le ..
  refine ⟨ownUrgency_degraded c, fun l sound level => ?urgency, ownCapacity_eq x, demandOf_ceil _ _, demandOf_eq_zero,
    fun full => ?full, demandOf_pos, demandOf_le _ (ownUrgency_le c x), shareOf_le c _ _ grant,
    fun z stage closed => ?closed, isolatedIn_iff x, members_ascending .., mem_members _ _ _ _, ?share⟩
  case urgency =>
    have figure : r.urgency = urgencyAt c l := ownUrgency_of_level c sound level
    rw [figure]
    exact ⟨fun low => if_pos low, fun high => by rw [urgencyAt, if_neg (by omega), if_pos high], urgencyAt_between c l⟩
  case full => exact (congrArg (demandOf r.cav) full).trans (demandOf_full r.cav)
  case closed => exact shareOf_closed (by rwa [stage]) _ _ _
  case share =>
    intro z net stage below allowance first last
    refine ⟨ownGrant c.station (grants net (members c.station r.urgency r.demand x.records)),
      fun asks => exists_own_grant _ _ asks first last, fun silent => ?silent, ?value⟩
    case silent => exact Nat.le_zero.1 (silent ▸ ownGrant_le ..)
    case value =>
      have share : r.share = shareOf c r.isolated z
          (ownGrant c.station (grants net (members c.station r.urgency r.demand x.records))) r.demand := by
        simp only [r, allocate, stage, allowance, Option.getD_some]
      rw [share, shareOf_open below]

end Sys2Proof.Machine
end

section
/-! PROOFS. The rotation list as an acceptance settles it, and the full-speed discharge by head (sections 6.1 to 6.3). -/
namespace Sys2Proof.Machine

/-! ## The settled rotation list (O11) -/

theorem mem_fittedNums (c : StationConfig) (n : Nat) :
    n ∈ fittedNums c ↔ ∃ k, chanNum k = n ∧ (quadGet c.pumps k).fitted = true := by
  have all : ∀ k, k ∈ allChans := fun k => by cases k <;> decide
  simp only [fittedNums, List.mem_map, List.mem_filter, all, true_and]
  exact exists_congr fun k => and_comm

theorem fittedNums_ascending (c : StationConfig) : (fittedNums c).Pairwise (· < ·) := by
  have ascending : allChans.Pairwise (fun j k => chanNum j < chanNum k) := by decide
  exact List.pairwise_map.2 (ascending.filter _)

/-- A retained list is used when it holds no number twice and none outside 1 to 4 (R105). -/
theorem rotationSound_iff (l : List Nat) : rotationSound l = true ↔ l.Nodup ∧ ∀ n ∈ l, 1 ≤ n ∧ n ≤ 4 := by
  simp [rotationSound, and_comm]

/-- The fitted channels that a list lacks, in ascending order. -/
def missing (c : StationConfig) (l : List Nat) : List Nat := (fittedNums c).filter fun n => !l.contains n

/-- A sound retained list keeps its fitted entries, and the missing ones follow (R105). -/
theorem settleRotation_sound (c : StationConfig) {l : List Nat} (sound : rotationSound l = true) :
    settleRotation c (some l) =
      l.filter (fun n => (fittedNums c).contains n) ++ missing c (l.filter fun n => (fittedNums c).contains n) :=
  if_pos sound

/-- Any other retained list is discarded (R105). -/
theorem settleRotation_unsound (c : StationConfig) {retained : Option (List Nat)}
    (h : ∀ l, retained = some l → rotationSound l = false) : settleRotation c retained = fittedNums c := by
  cases retained with
  | none => rfl
  | some l => exact if_neg (by simp [h l rfl])

/-- The settled list is of one of two kinds. -/
theorem settleRotation_cases (c : StationConfig) (retained : Option (List Nat)) :
    settleRotation c retained = fittedNums c ∨
      ∃ kept : List Nat, kept.Nodup ∧ (∀ n ∈ kept, n ∈ fittedNums c) ∧ settleRotation c retained = kept ++ missing c kept := by
  by_cases sound : ∃ l, retained = some l ∧ rotationSound l = true
  · obtain ⟨l, rfl, sound⟩ := sound
    refine .inr ⟨_, ((rotationSound_iff l).1 sound).1.filter _, fun n inList => ?_, settleRotation_sound c sound⟩
    simpa using (List.mem_filter.1 inList).2
  · exact .inl (settleRotation_unsound c fun l held => by
      rw [← Bool.not_eq_true]; exact fun h => sound ⟨l, held, h⟩)

/-- Every fitted channel once and nothing else (R104, R105). -/
theorem settleRotation_complete (c : StationConfig) (retained : Option (List Nat)) :
    (settleRotation c retained).Nodup ∧ ∀ n, n ∈ settleRotation c retained ↔ n ∈ fittedNums c := by
  have once := (fittedNums_ascending c).nodup
  rcases settleRotation_cases c retained with settled | ⟨kept, nodup, fitted, settled⟩ <;> rw [settled]
  · exact ⟨once, fun _ => .rfl⟩
  · refine ⟨nodup.append (once.filter _) fun n inKept absent => ?_, fun n => ?_⟩
    · simp [missing, inKept] at absent
    · simp only [List.mem_append, missing, List.mem_filter, Bool.not_eq_true', List.contains_eq_mem, decide_eq_false_iff_not]
      exact ⟨fun h => h.elim (fitted n) (·.1), fun h => or_iff_not_imp_left.2 fun lacks => ⟨h, lacks⟩⟩

/-- Settles O11: the settled list is complete (`settleRotation_complete`), and its order is that of the retained list or
ascending. -/
theorem theRotationListIsSettledAgainstTheFittedChannels : Obligations.TheRotationListIsSettledAgainstTheFittedChannels := by
  intro c retained fitted l
  obtain ⟨nodup, members⟩ := settleRotation_complete c retained
  refine ⟨nodup, fun n => (members n).trans (mem_fittedNums c n), ?retained, fun unsound => ?ascending⟩
  case retained =>
    rintro old rfl once range
    exact ⟨_, settleRotation_sound c ((rotationSound_iff old).2 ⟨once, range⟩), (fittedNums_ascending c).filter _⟩
  case ascending =>
    have discarded : l = fittedNums c := by
      refine settleRotation_unsound c fun old held => ?_
      rw [← Bool.not_eq_true, rotationSound_iff]
      rcases unsound with none | ⟨old', held', not⟩
      · simp [none] at held
      · obtain rfl : old' = old := Option.some.inj (held'.symm.trans held)
        exact not
    rw [discarded]
    exact fittedNums_ascending c

/-! ## The discharge of a fitted pump (O42) -/

/-- The pump checks and the clamps of a fitted pump leave figures within their ranges (R177, R180). -/
structure PumpBlock.Ranged (p : PumpBlock) : Prop where
  heads : p.hr < p.hsh
  hsh   : p.hsh ≤ 65535
  qr    : p.qr ≤ 4000
  nmin  : 100 ≤ p.nmin ∧ p.nmin ≤ 1022

theorem configOf_pump_ranged (img : List Byte) (k : Chan) (fits : (quadGet (configOf img).pumps k).fitted = true) :
    (quadGet (configOf img).pumps k).Ranged := by
  rw [configOf_pump] at fits ⊢
  have stored : (readPump img k).fitted = true := by
    unfold clampPump at fits
    split at fits
    · assumption
    · exact fits
  have heads : (readPump img k).hr < (readPump img k).hsh := by
    have checks : blockFitted img k = true := stored
    simp only [blockFitted, Bool.and_eq_true, decide_eq_true_eq] at checks
    exact checks.1.1.2
  rw [clampPump, if_pos stored]
  exact ⟨heads, Nat.le_of_lt_succ (u16At_lt _ _), Nat.min_le_right _ _, by simp only [clampNat]; omega⟩

/-- A quotient times its divisor, and the next multiple, enclose the dividend. -/
theorem floored_bounds (a : Nat) {d : Nat} (pos : 0 < d) : d * (a / d) ≤ a ∧ a < d * (a / d + 1) :=
  ⟨Nat.mul_div_le a d, Nat.lt_mul_div_succ a pos⟩

/-- No head gives more than the rated discharge (R100). -/
theorem fullDischarge_le (p : PumpBlock) (h : Nat) (heads : p.hr < p.hsh) : fullDischarge p h ≤ p.qr := by
  unfold fullDischarge
  repeat' split
  · exact le_rfl
  · exact Nat.zero_le _
  · exact Nat.div_le_of_le_mul (by rw [mul_comm]; exact Nat.mul_le_mul_right _ (by omega))

/-- Between the rated and the shut-off head the discharge is the floored line (R100). -/
theorem fullDischarge_between {p : PumpBlock} {h : Nat} (above : p.hr < h) (below : h < p.hsh) :
    fullDischarge p h = p.qr * (p.hsh - h) / (p.hsh - p.hr) := by
  rw [fullDischarge, if_neg (by omega), if_neg (by omega)]

/-- There a pump with a discharge at all stays below its rated one (R100). -/
theorem fullDischarge_lt {p : PumpBlock} {h : Nat} (above : p.hr < h) (below : h < p.hsh) (rated : 0 < p.qr) :
    fullDischarge p h < p.qr := by
  rw [fullDischarge_between above below, Nat.div_lt_iff_lt_mul (by omega)]
  exact Nat.mul_lt_mul_of_pos_left (by omega) rated

/-- No reference gives more than the full-speed discharge (R100). -/
theorem atSpeed_le (q : Nat) {n : Nat} (h : n ≤ 1022) : atSpeed q n ≤ q :=
  Nat.div_le_of_le_mul (by rw [mul_comm]; exact Nat.mul_le_mul_right _ h)

/-- Settles O42: the ranges are those of the clamps, the table's entry is `formTable_entry`, and the rest is the arithmetic of a
floored quotient. -/
theorem dischargeFallsFromTheRatedToTheShutOffHead : Obligations.DischargeFallsFromTheRatedToTheShutOffHead := by
  refine ⟨fun img k fits => ?ranges, fun s h k head fits => ?table, fun p h n heads shutOff rated low high speed => ?row⟩
  case ranges =>
    obtain ⟨heads, hsh, qr, low, high⟩ := configOf_pump_ranged img k fits
    exact ⟨heads, hsh, qr, low, high⟩
  case table =>
    have entry := formTable_entry s h head k
    rw [if_pos fits] at entry
    obtain ⟨qmax, qmin⟩ := discharge_of_table _ _ _ entry
    dsimp only
    rw [entry, qmax, qmin]
    exact ⟨rfl, rfl, floored_bounds _ (by norm_num)⟩
  case row =>
    have q := fullDischarge_le p h heads
    have small : fullDischarge p h ≤ 4000 := q.trans rated
    refine ⟨fun below => if_pos below, fun above => ?shut, fun above below => ?middle, floored_bounds _ (by norm_num),
      Nat.mul_le_mul small speed, Nat.mul_div_cancel _ (by norm_num), by simp [atSpeed], q, (atSpeed_le _ speed).trans q,
      floored_bounds _ (by norm_num), (atSpeed_le _ high).trans q⟩
    case shut => rw [fullDischarge, if_neg (by omega), if_pos above]
    case middle =>
      have product : p.qr * (p.hsh - h) ≤ 4000 * 65535 := Nat.mul_le_mul rated (by omega)
      refine ⟨?_, ?_, by omega, fun some => Nat.le_sub_one_of_lt (fullDischarge_lt above below some)⟩ <;>
        rw [fullDischarge_between above below]
      · exact (floored_bounds _ (by omega)).1
      · exact (floored_bounds _ (by omega)).2

end Sys2Proof.Machine
end

section
/-! PROOFS. The rotation list and the speed references: what the moves of an event keep of them, and what its end forms anew
(sections 6.3 to 6.5, 8.3 and 8.6). -/
namespace Sys2Proof.Machine

/-! ## What an operation keeps -/

/-- Only a fitted channel has a state (R137). -/
def OnlyFitted (s : State) : Prop := ∀ k, s.chanState k ≠ none → s.fitted k = true

/-- The speed references apart from n_t, which an event forms at its end alone (R111, R112, R140). -/
structure Geared (s : State) : Prop where
  pumps     : ∀ k, s.fitted k = true → 100 ≤ (s.pump k).nmin ∧ (s.pump k).nmin ≤ 1022
  reference : ∀ k, (s.chan k).run = true → (s.pump k).nmin ≤ (s.chan k).reference ∧ (s.chan k).reference ≤ 1022

theorem SpeedsSound.geared {s : State} (h : SpeedsSound s) : Geared s := ⟨h.pumps, h.reference⟩

/-- A command of a part in service: the configuration stands, and the rotation list and the references stay sound. -/
structure DispatchKept (s t : State) : Prop where
  config : t.ctl.config = s.ctl.config
  fits   : OnlyFitted s → OnlyFitted t
  list   : OnlyFitted s → RotationSound s → RotationSound t
  speeds : OnlyFitted s → SpeedsSound s → SpeedsSound t

/-- The moves of an event, before its end: n_t stands as it was. -/
structure DispatchMoving (s t : State) : Prop where
  config : t.ctl.config = s.ctl.config
  fits   : OnlyFitted s → OnlyFitted t
  list   : OnlyFitted s → RotationSound s → RotationSound t
  nt     : t.disp.nt = s.disp.nt

/-- Moves that need nothing of n_t to keep the references in range. -/
structure DispatchMoved (s t : State) : Prop extends DispatchMoving s t where
  geared : OnlyFitted s → Geared s → Geared t

theorem DispatchKept.refl (s : State) : DispatchKept s s := ⟨rfl, id, fun _ => id, fun _ => id⟩

theorem DispatchKept.trans {s t u : State} (h : DispatchKept s t) (g : DispatchKept t u) : DispatchKept s u where
  config := g.config.trans h.config
  fits := g.fits ∘ h.fits
  list fits := g.list (h.fits fits) ∘ h.list fits
  speeds fits := g.speeds (h.fits fits) ∘ h.speeds fits

theorem DispatchMoved.refl (s : State) : DispatchMoved s s := ⟨⟨rfl, id, fun _ => id, rfl⟩, fun _ => id⟩

theorem DispatchMoved.trans {s t u : State} (h : DispatchMoved s t) (g : DispatchMoved t u) : DispatchMoved s u where
  config := g.config.trans h.config
  fits := g.fits ∘ h.fits
  list fits := g.list (h.fits fits) ∘ h.list fits
  nt := g.nt.trans h.nt
  geared fits := g.geared (h.fits fits) ∘ h.geared fits

/-! ## What each of them is read from -/

theorem pump_congr {s t : State} (config : t.ctl.config = s.ctl.config) (k : Chan) : t.pump k = s.pump k := by
  simp only [State.pump, State.cfg, config]

theorem fitted_congr {s t : State} (config : t.ctl.config = s.ctl.config) (k : Chan) : t.fitted k = s.fitted k := by
  simp only [State.fitted, pump_congr config]

theorem RotationSound.congr {s t : State} (h : RotationSound s) (config : t.ctl.config = s.ctl.config)
    (rotation : t.disp.rotation = s.disp.rotation) : RotationSound t := by
  simpa only [RotationSound, config, rotation, fitted_congr config] using h

theorem OnlyFitted.congr {s t : State} (h : OnlyFitted s) (config : t.ctl.config = s.ctl.config) (chans : t.chans = s.chans) :
    OnlyFitted t := by
  simpa only [OnlyFitted, State.chanState, State.chan, chans, fitted_congr config] using h

theorem Geared.congr {s t : State} (h : Geared s) (config : t.ctl.config = s.ctl.config) (chans : t.chans = s.chans) :
    Geared t := by
  obtain ⟨pumps, reference⟩ := h
  constructor <;> simpa only [State.chan, chans, fitted_congr config, pump_congr config]

theorem SpeedsSound.congr {s t : State} (h : SpeedsSound s) (config : t.ctl.config = s.ctl.config)
    (chans : t.chans = s.chans) (nt : t.disp.nt = s.disp.nt) : SpeedsSound t := by
  obtain ⟨pumps, reference, target⟩ := h
  constructor <;>
    simpa only [State.isIn, State.chanState, State.chan, chans, nt, fitted_congr config, pump_congr config]

section
variable {s t : State} (config : t.ctl.config = s.ctl.config) (chans : t.chans = s.chans)
  (rotation : t.disp.rotation = s.disp.rotation) (nt : t.disp.nt = s.disp.nt)
include config chans rotation nt

/-- What touches neither configuration, nor channels, nor rotation list, nor n_t. -/
theorem DispatchKept.of_frame : DispatchKept s t :=
  ⟨config, fun h => h.congr config chans, fun _ h => h.congr config rotation, fun _ h => h.congr config chans nt⟩

theorem DispatchMoved.of_frame : DispatchMoved s t :=
  ⟨⟨config, fun h => h.congr config chans, fun _ h => h.congr config rotation, nt⟩, fun _ h => h.congr config chans⟩

end

/-! ## The end of an event (R111) -/

/-- n_t formed for RUNNING channels, all of them fitted, lies within their ranges (R111). -/
theorem formNt_target {s : State} (fits : OnlyFitted s) (geared : Geared s) (k : Chan) (running : s.isIn k .running = true) :
    ∃ n, (formNt s).disp.nt = some n ∧ (s.pump k).nmin ≤ n ∧ n ≤ 1022 := by
  obtain ⟨largest, j, running', lo⟩ := nLo_largest s ⟨k, running⟩
  have low := largest k running
  have high : nLo s ≤ 1022 := by
    rw [← lo]; exact (geared.pumps j (fits j (chanState_ne_none_of_isIn running'))).2
  have any : (anyChan fun j => s.isIn j .running) = true := by cases k <;> simp [anyChan, running]
  refine ⟨_, by rw [formNt, if_pos any]; rfl, ?_⟩
  have most : Config.speedMax = 1022 := rfl
  split <;> omega

/-- After n_t has been formed the speeds are sound (R111). -/
theorem formNt_speedsSound {s : State} (fits : OnlyFitted s) (geared : Geared s) : SpeedsSound (formNt s) := by
  obtain ⟨pumps, reference⟩ := geared.congr (t := formNt s) (by simp) (by simp)
  refine ⟨pumps, reference, fun k running => ?_⟩
  rw [pump_congr (s := s) (by simp)]
  exact formNt_target fits geared k (by simpa [State.isIn, State.chanState, State.chan] using running)

/-- Without an occasion for n_t no channel has entered RUNNING (R111). -/
theorem running_of_not_due {s0 s : State} (due : speedTargetDue s0 s = false) (k : Chan) :
    s.isIn k .running = s0.isIn k .running := by
  simp only [speedTargetDue, Bool.or_eq_false_iff, bne_eq_false_iff_eq] at due
  simpa only [runningSet, quadGet_quadOf] using (congrArg (quadGet · k) due.1.2).symm

/-- The end of an event keeps the list, and n_t is formed or as good as it was (R111). -/
theorem DispatchMoving.settled {s0 s : State} (h : DispatchMoving s0 s) (geared : OnlyFitted s0 → SpeedsSound s0 → Geared s) (n : Nat) :
    DispatchKept s0 (settle s0 n s) where
  config := by simpa using h.config
  fits fits := (h.fits fits).congr (by simp) (by simp)
  list fits sound := (h.list fits sound).congr (by simp) (by simp)
  speeds fits sound := by
    have config : (settle s0 n s).ctl.config = s.ctl.config := by simp
    have nt : (settle s0 n s).disp.nt = if speedTargetDue s0 s then (formNt (reform s)).disp.nt else s0.disp.nt := by
      rw [settle_disp, speedTargetDue_reform]
      split
      · rfl
      · exact h.nt
    obtain ⟨pumps, reference⟩ := (geared fits sound).congr (t := settle s0 n s) config (by simp)
    refine ⟨pumps, reference, fun k running => ?_⟩
    have running : s.isIn k .running = true := by simpa [State.isIn, State.chanState, State.chan] using running
    rw [nt, pump_congr config]
    split
    case isTrue =>
      have formed : OnlyFitted (reform s) ∧ Geared (reform s) :=
        ⟨(h.fits fits).congr rfl rfl, (geared fits sound).congr rfl rfl⟩
      exact formNt_target formed.1 formed.2 k running
    case isFalse due =>
      rw [pump_congr h.config]
      exact sound.target k (by rw [← running_of_not_due (by simpa using due)]; exact running)

theorem DispatchMoved.settled {s0 s : State} (h : DispatchMoved s0 s) (n : Nat) : DispatchKept s0 (settle s0 n s) :=
  h.toDispatchMoving.settled (fun fits sound => h.geared fits sound.geared) n

/-! ## Channel moves (chapter 8) -/

/-- A move to a state of a fitted channel, with the reference in range when its run output is active (R140). -/
theorem moveChan_moved {s : State} {k : Chan} {c : Channel} (fitted : OnlyFitted s → s.fitted k = true)
    (within : OnlyFitted s → Geared s → c.run = true → (s.pump k).nmin ≤ c.reference ∧ c.reference ≤ 1022) :
    DispatchMoved s (moveChan s k c) where
  config := by simp
  fits fits j := by
    simp only [State.chanState, moveChan_chan]
    split
    case isTrue same => exact fun _ => same ▸ fitted fits
    case isFalse => exact fits j
  list _ sound := sound.congr (by simp) (by simp)
  nt := by simp
  geared fits geared := by
    refine ⟨geared.pumps, fun j => ?_⟩
    rw [moveChan_chan]
    split
    case isTrue same => subst same; exact within fits geared
    case isFalse => exact geared.reference j

/-- A channel moved to a state in which its run output is off (R140). -/
theorem moveChan_off_moved {s : State} {k : Chan} {c : Channel} (fitted : OnlyFitted s → s.fitted k = true)
    (off : c.run = false) : DispatchMoved s (moveChan s k c) :=
  moveChan_moved fitted fun _ _ on => absurd on (by simp [off])

/-- A channel moved on with its run output and reference as they are. -/
theorem moveChan_on_moved {s : State} {k : Chan} {c : Channel} (placed : s.chanState k ≠ none) (run : c.run = (s.chan k).run)
    (reference : c.reference = (s.chan k).reference) : DispatchMoved s (moveChan s k c) :=
  moveChan_moved (fun fits => fits k placed) fun _ geared on => by
    rw [reference]; exact geared.reference k (run ▸ on)

theorem enterResting_moved {s : State} {k : Chan} (fitted : OnlyFitted s → s.fitted k = true) :
    DispatchMoved s (enterResting s k) := by
  unfold enterResting; split <;> exact moveChan_off_moved fitted rfl

theorem placeByMode_moved {s : State} {k : Chan} (fitted : OnlyFitted s → s.fitted k = true) :
    DispatchMoved s (placeByMode s k) := by
  unfold placeByMode; split
  · exact enterResting_moved fitted
  · exact moveChan_off_moved fitted rfl
  · exact moveChan_off_moved fitted rfl
  · exact .refl s

theorem stopOrder_moved (s : State) (k : Chan) : DispatchMoved s (stopOrder s k) := by
  unfold stopOrder; split
  case isTrue inR => exact moveChan_on_moved (chanState_ne_none_of_inR inR) rfl rfl
  case isFalse => exact .refl s

theorem dryRunOrder_moved (s : State) (k : Chan) : DispatchMoved s (dryRunOrder s k) := by
  unfold dryRunOrder; split
  case isTrue turning => exact enterResting_moved fun fits => fits k (chanState_ne_none_of_turning turning)
  case isFalse => exact .refl s

theorem backToIdle_moved (s : State) (k : Chan) : DispatchMoved s (backToIdle s k) := by
  unfold backToIdle; split
  case isTrue notice => exact moveChan_off_moved (fun fits => fits k (chanState_ne_none_of_isIn notice)) rfl
  case isFalse => exact .refl s

/-- A rotation list with a fitted channel moved to its end is as complete as before (R104). -/
theorem RotationSound.toEnd {s t : State} (h : RotationSound s) (config : t.ctl.config = s.ctl.config) (k : Chan)
    (fitted : s.fitted k = true)
    (rotation : t.disp.rotation = s.disp.rotation.map fun l => l.filter (fun n => n != chanNum k) ++ [chanNum k]) :
    RotationSound t := by
  intro accepted
  obtain ⟨l, held, once, members⟩ := h (config ▸ accepted)
  refine ⟨_, by rw [rotation, held]; rfl, ?_, fun n => ?_⟩
  · exact (once.filter _).append (List.nodup_singleton _) (by simp [List.disjoint_singleton])
  · simp only [fitted_congr config, List.mem_append, List.mem_filter, List.mem_singleton, bne_iff_ne, members]
    constructor
    · rintro (⟨there, -⟩ | rfl)
      · exact there
      · exact ⟨k, fitted, rfl⟩
    · intro there
      by_cases last : n = chanNum k
      · exact .inr last
      · exact .inl ⟨there, last⟩

/-- The start order: the reference at nmin, and the channel at the end of the rotation list (R104, R147). -/
theorem startOrder_moved (s : State) (k : Chan) : DispatchMoved s (startOrder s k) := by
  unfold startOrder; split
  case isFalse => exact .refl s
  case isTrue notice =>
    have fitted : OnlyFitted s → s.fitted k = true := fun fits => fits k (chanState_ne_none_of_isIn notice)
    obtain ⟨⟨config, fits, -, nt⟩, geared⟩ := moveChan_moved (s := s) (k := k) (c := { s.chan k with
      state := some .starting, run := true, reference := (s.pump k).nmin, window := some (s.cfg.tStart * 1000), rest := none })
      fitted (fun fits geared _ => ⟨le_rfl, (geared.pumps k (fitted fits)).2⟩)
    exact ⟨⟨config, fits, fun fits sound => sound.toEnd config k (fitted fits) (by simp), nt⟩,
      fun fits geared' => (geared fits geared').congr rfl rfl⟩

theorem setSup_moved (s : State) (x : Supervision) : DispatchMoved s (s.setSup x) := .of_frame rfl rfl rfl rfl

theorem latchFault_moved (s : State) (k : Chan) (kind : FaultKind) : DispatchMoved s (latchFault s k kind) := by
  unfold latchFault; split
  case isTrue turning =>
    refine (setSup_moved s _).trans (moveChan_off_moved (fun fits => fits k ?_) rfl)
    exact chanState_ne_none_of_turning turning
  case isFalse => exact setSup_moved s _

/-- What a move of each channel keeps, the moves of all four keep. -/
theorem forChans_moved {f : State → Chan → State} (h : ∀ s k, DispatchMoved s (f s k)) (s : State) :
    DispatchMoved s (forChans f s) :=
  forChans_keeps (P := DispatchMoved s) (fun u k hu => hu.trans (h u k)) s (.refl s)

theorem latchesArrive_dispatchKept (s : State) : DispatchKept s (latchesArrive s) := by
  have arrive : ∀ u k, DispatchMoved u (latchArrives u k) := by
    intro u k
    unfold latchArrives; split
    · exact latchFault_moved u k _
    · exact .refl u
  unfold latchesArrive; split
  · exact .refl s
  · exact ((forChans_moved arrive s).trans (setSup_moved _ _)).settled _

theorem faultsLeft_moved (s : State) : DispatchMoved (watchesReset s) (faultsLeft s) :=
  forChans_moved (fun u k => by
    unfold leaveFault; split
    case isTrue fault => exact placeByMode_moved fun fits => fits k (chanState_ne_none_of_isIn fault)
    case isFalse => exact .refl u) _

theorem watchesReset_dispatchKept (s : State) : DispatchKept s (watchesReset s) := .of_frame rfl rfl rfl rfl

theorem clearFaultLatches_dispatchKept (s : State) : DispatchKept s (clearFaultLatches s) := by
  have cleared : DispatchKept s (faultsCleared s) := by
    unfold faultsCleared; split
    · exact (watchesReset_dispatchKept s).trans ((faultsLeft_moved s).settled 0)
    · exact watchesReset_dispatchKept s
  exact cleared.trans (latchesArrive_dispatchKept _)

/-! ## The own notice (chapter 7) -/

theorem dropNotice_moved (s : State) : DispatchMoved s (dropNotice s) := .of_frame (by simp) (by simp) (by simp) (by simp)

theorem withdrawNotice_moved (s : State) : DispatchMoved s (withdrawNotice s) := by
  unfold withdrawNotice; split
  · exact (dropNotice_moved s).trans (backToIdle_moved _ _)
  · exact .refl s

theorem startRequest_moved (s : State) (k : Chan) : DispatchMoved s (startRequest s k) := by
  unfold startRequest
  split
  case isFalse => exact .refl s
  case isTrue taken =>
    simp only [Bool.and_eq_true] at taken
    have moved : DispatchMoved s (moveChan s k (parked (s.chan k) .notice)) :=
      moveChan_off_moved (fun fits => fits k (chanState_ne_none_of_isIn taken.2)) rfl
    dsimp only
    split <;> exact moved.trans (.of_frame (by simp) (by simp) (by simp) (by simp))

theorem modeChange_moved (s : State) (k : Chan) : DispatchMoved s (modeChange s k) := by
  by_cases ignored : s.chanState k = none ∨ s.chanState k = some .fault
  · rw [modeChange_ignored s k ignored]; exact .refl s
  obtain ⟨x, state⟩ := Option.ne_none_iff_exists'.1 (not_or.1 ignored).1
  have left : DispatchMoved s (leaveNotice s k) := by
    unfold leaveNotice; split
    · exact dropNotice_moved s
    · exact .refl s
  rw [modeChange_eq s k state fun fault => ignored (.inr (fault ▸ state))]
  split
  · exact .refl s
  · exact left.trans (placeByMode_moved fun fits =>
      fits k (by simpa [State.chanState] using (not_or.1 ignored).1))

end Sys2Proof.Machine
end

section
/-! PROOFS. The rotation list and the speed references, concluded: each command, and every step (O59, O60). -/
namespace Sys2Proof.Machine

/-! ## Acquisition and supervision (chapters 1 and 9) -/

theorem execScanTimerExpiry_dispatchKept (s : State) (contacts : Quad Contacts) :
    Leads (DispatchKept s) (execScanTimerExpiry contacts s) := by
  have samples : DispatchMoved s (sampled contacts s) := by
    have chan : ∀ k, ((sampled contacts s).chan k).state = (s.chan k).state ∧ ((sampled contacts s).chan k).run = (s.chan k).run ∧
        ((sampled contacts s).chan k).reference = (s.chan k).reference := fun k => by simp
    refine ⟨⟨rfl, fun fits k => ?_, fun _ sound => sound.congr rfl rfl, rfl⟩, fun _ geared => ⟨geared.pumps, fun k => ?_⟩⟩
    · rw [State.chanState, (chan k).1]; exact fits k
    · rw [(chan k).2.1, (chan k).2.2]; exact geared.reference k
  have modes : DispatchMoved s (modesTaken contacts s) := samples.trans (forChans_moved (fun u k => by
    unfold takeMode; split
    · exact modeChange_moved u k
    · exact .refl u) _)
  refine ⟨_, rfl, DispatchKept.trans ?_ (latchesArrive_dispatchKept _)⟩
  split
  case isFalse => exact .refl s
  case isTrue =>
    dsimp only
    split
    · exact modes.settled 0
    · exact ⟨samples.config, samples.fits, samples.list, fun fits sound =>
        ⟨(samples.geared fits sound.geared).pumps, (samples.geared fits sound.geared).reference, fun k running =>
          sound.target k ((sampled_isIn contacts s k .running).symm.trans running)⟩⟩

theorem judgeLockout_moved (s : State) : DispatchMoved s (judgeLockout s) := by
  unfold judgeLockout
  repeat' split
  case isTrue.isTrue => exact .of_frame rfl rfl rfl rfl
  case isFalse.isTrue =>
    have locked : DispatchMoved s (s.setDisp { s.disp with lockout := true }) := .of_frame rfl rfl rfl rfl
    exact (locked.trans (forChans_moved dryRunOrder_moved _)).trans (withdrawNotice_moved _)
  all_goals exact .refl s

theorem superviseChan_moved (s : State) (k : Chan) : DispatchMoved s (superviseChan s k) := by
  unfold superviseChan offerLatch
  dsimp only
  repeat' split
  case h_1.isFalse => exact (setSup_moved s _).trans (latchFault_moved _ _ _)
  case isFalse => exact .refl s
  all_goals exact (setSup_moved s _)

theorem scanFormed_moved (s : State) : DispatchMoved s (scanFormed s) := by
  obtain ⟨ctl, -, -, -, chans⟩ := scanFormed_frame s
  have disp : (scanFormed s).disp.rotation = s.disp.rotation ∧ (scanFormed s).disp.nt = s.disp.nt := by
    have hand : ∀ u, (judgeHand u).disp.rotation = u.disp.rotation ∧ (judgeHand u).disp.nt = u.disp.nt := fun _ => ⟨rfl, rfl⟩
    unfold scanFormed
    rw [(hand _).1, (hand _).2]
    split
    · rw [formTable_disp]; simp
    · simp
  exact .of_frame (by rw [ctl]) chans disp.1 disp.2

theorem scanCompletion_dispatchKept (s : State) : Leads (DispatchKept s) (exec .scanCompletion s) := by
  by_cases scan : s.acq.scan = some 7
  · cases config : s.ctl.config with
    | none => exact ⟨_, scanCompletion_bare s scan config, .of_frame (by simp) (by simp) (by simp) (by simp)⟩
    | some c =>
      refine ⟨_, scanCompletion_with s c scan config, DispatchMoved.settled ?_ _⟩
      rw [scanJudged_eq]
      have judged := ((scanFormed_moved s).trans (judgeLockout_moved _)).trans (forChans_moved superviseChan_moved _)
      exact judged.trans (.of_frame (by simp) (by simp) (by simp) (by simp))
  · exact ⟨s, congrArg Host.Outcome.next (if_neg scan), .refl s⟩

theorem execFaultResetSample_dispatchKept (s : State) (active : Bool) :
    Leads (DispatchKept s) (execFaultResetSample active s) := by
  have stored : ∀ x, DispatchKept s (s.setSup x) := fun _ => .of_frame rfl rfl rfl rfl
  refine ⟨_, rfl, ?_⟩
  split
  · exact .refl s
  · dsimp only
    split
    · exact (stored _).trans (clearFaultLatches_dispatchKept _)
    · exact stored _

/-! ## The line port (chapters 2 and 3) -/

theorem rankStart_dispatchKept (s : State) (n : Nat) : DispatchKept s (rankStart s n) := by
  unfold rankStart
  repeat' split
  · exact (withdrawNotice_moved s).settled 0
  · exact .of_frame rfl rfl rfl rfl
  · exact .refl s

theorem deliver_dispatchKept (s : State) (n : Nat) (f : Frame) : DispatchKept s (deliver s n f) := by
  have stored : ∀ m r, DispatchKept s (s.setRecord m r) := fun _ _ => .of_frame rfl rfl rfl rfl
  unfold deliver
  split
  · exact stored _ _
  · exact stored _ _
  · exact (stored _ _).trans (rankStart_dispatchKept _ n)

theorem lossesEnd_dispatchKept (s : State) (fault : Bool) : DispatchKept s (lossesEnd fault s) := by
  unfold lossesEnd; split
  · exact .of_frame (by simp) (by simp) (by simp) (by simp)
  · exact .refl s

theorem receiveFrame_dispatchKept (s : State) (f : RxFrame) : DispatchKept s (receiveFrame s f) := by
  have ported : ∀ {u} p, DispatchKept u (u.setPort p) := fun _ => .of_frame rfl rfl rfl rfl
  unfold receiveFrame
  split
  case isFalse => exact .refl s
  case isTrue =>
    dsimp only
    split
    case h_1 => exact DispatchKept.trans (.of_frame (by simp) (by simp) (by simp) (by simp)) (lossesEnd_dispatchKept _ _)
    case h_2 n g _ =>
      have good : ∀ p q : Port, DispatchKept s ((s.setPort p).setPort q) := fun p q => (ported p).trans (ported q)
      split
      · exact .of_frame (by simp) (by simp) (by simp) (by simp)
      · exact ((good _ _).trans (deliver_dispatchKept _ n g)).trans (lossesEnd_dispatchKept _ _)

theorem execSlotStart_dispatchKept (s : State) (idle : Nat) (dominant : Bool) :
    Leads (DispatchKept s) (execSlotStart idle dominant s) := by
  refine ⟨_, rfl, ?_⟩
  unfold beginFrame
  repeat' split
  all_goals first
    | exact .refl s
    | exact .of_frame (by simp) (by simp) (by simp) (by simp)

theorem execContentionLoss_dispatchKept (s : State) : Leads (DispatchKept s) (execContentionLoss s) := by
  refine ⟨_, rfl, ?_⟩
  split
  · exact .refl s
  · unfold reportReturned
    dsimp only
    repeat' split
    all_goals exact .of_frame (by simp) (by simp) (by simp) (by simp)

/-! ## Joining and reports (chapter 3) -/

theorem enterJoining_dispatchKept (s : State) : DispatchKept s (enterJoining s) := by
  have marked : DispatchMoved s (joining s) := .of_frame (by simp [joining]) (by simp [joining]) (by simp [joining]) (by simp [joining])
  have placed := forChans_moved (f := placeAtJoining) (fun u k => by
    unfold placeAtJoining; split
    case isTrue due =>
      simp only [Bool.and_eq_true] at due
      exact placeByMode_moved fun _ => due.1
    case isFalse => exact .refl u) (joining s)
  rw [enterJoining_eq]
  exact (marked.trans placed).settled 0

theorem handOver_dispatchKept (s : State) (x : PortState) (record : Option SelfTestRecord) :
    DispatchKept s (handOver s x record) := by
  unfold handOver
  refine DispatchKept.trans ?_ (enterJoining_dispatchKept _)
  exact .of_frame rfl rfl rfl rfl

theorem execListenTimerExpiry_dispatchKept (s : State) : Leads (DispatchKept s) (execListenTimerExpiry s) := by
  refine ⟨_, rfl, ?_⟩
  split
  case isFalse => exact .refl s
  case isTrue =>
    have tabled : DispatchMoved s (formTable (orderActive s)) := by
      have active : orderActive s = s.setPort (orderActive s).port := by unfold orderActive; split <;> rfl
      rw [active]
      exact .of_frame (by simp) (by simp) (by rw [formTable_disp]; rfl) (by rw [formTable_disp]; rfl)
    exact (tabled.settled 0).trans (.of_frame (by simp) (by simp) (by simp) (by simp))

/-! ## Allocation, dispatch and the channels' timers (chapters 4 to 8) -/

theorem execAllocationTimerExpiry_dispatchKept (s : State) : Leads (DispatchKept s) (execAllocationTimerExpiry s) := by
  refine ⟨_, rfl, ?_⟩
  split
  case isFalse => exact .refl s
  case isTrue =>
    have taken : DispatchMoved s (snapped s) := by
      have disp : (tabled s).disp.rotation = s.disp.rotation ∧ (tabled s).disp.nt = s.disp.nt := by
        simp only [tabled, reform, State.setDisp_disp]; rw [formTable_disp]; exact ⟨rfl, rfl⟩
      rw [snapped_eq]
      exact .of_frame rfl rfl disp.1 disp.2
    exact taken.settled 0

theorem decide4_moved (s : State) : DispatchMoved s (decide4 s) := by
  unfold decide4
  dsimp only
  repeat' split
  case isTrue => exact (forChans_moved stopOrder_moved s).trans (withdrawNotice_moved _)
  all_goals first
    | exact .refl s
    | exact startRequest_moved s _
    | exact stopOrder_moved s _

theorem formNt_dispatchKept (s : State) : DispatchKept s (formNt s) where
  config := by simp
  fits fits := fits.congr (by simp) (by simp)
  list _ sound := sound.congr (by simp) (by rw [formNt_disp])
  speeds fits sound := formNt_speedsSound fits sound.geared

theorem execAllocationCompletion_dispatchKept (s : State) : Leads (DispatchKept s) (execAllocationCompletion s) := by
  refine ⟨_, rfl, DispatchKept.trans ?_ (latchesArrive_dispatchKept _)⟩
  split
  case h_1 => exact .refl s
  case h_2 x _ =>
    have published : DispatchKept s (publishAllocation s x) := .of_frame rfl rfl rfl rfl
    dsimp only
    split
    · exact published.trans (((decide4_moved _).settled 0).trans (formNt_dispatchKept _))
    · exact published

theorem execHoldOffExpiry_dispatchKept (s : State) : Leads (DispatchKept s) (execHoldOffExpiry s) := by
  have cleared : ∀ a : Arbiter, DispatchMoved s (s.setArb a) := fun _ => .of_frame rfl rfl rfl rfl
  refine ⟨_, rfl, ?_⟩
  split
  · split
    · refine DispatchMoved.settled ?_ 0
      split
      · exact (cleared _).trans (startOrder_moved _ _)
      · exact (cleared _).trans (backToIdle_moved _ _)
    · exact .refl s
  · exact .refl s

/-- A step from a reference to a target, both within a range, stays in the range (R112). -/
theorem slewToward_within (step : Nat) {target n low high : Nat} (start : low ≤ n ∧ n ≤ high)
    (goal : low ≤ target ∧ target ≤ high) : low ≤ slewToward step target n ∧ slewToward step target n ≤ high := by
  unfold slewToward; split <;> omega

/-- The slew keeps a reference in its range, when n_t is in the range of a RUNNING channel (R112, R113). -/
theorem slewChan_within {s : State} {k : Chan} (nmin : s.chanState k ≠ none → (s.pump k).nmin ≤ 1022)
    (reference : (s.chan k).run = true → (s.pump k).nmin ≤ (s.chan k).reference ∧ (s.chan k).reference ≤ 1022)
    (target : s.isIn k .running = true → ∀ n, s.disp.nt = some n → (s.pump k).nmin ≤ n ∧ n ≤ 1022)
    (run : ((slewChan s k).chan k).run = true) :
    (s.pump k).nmin ≤ ((slewChan s k).chan k).reference ∧ ((slewChan s k).chan k).reference ≤ 1022 := by
  by_cases running : (s.chan k).state = some .running
  · cases nt : s.disp.nt with
    | none =>
      have still : slewChan s k = s := by simp [slewChan, running, nt]
      rw [still] at run ⊢; exact reference run
    | some n =>
      rw [slewChan_running running nt] at run ⊢
      exact slewToward_within _ (reference run) (target (by simp [State.isIn, State.chanState, running]) n nt)
  by_cases starting : (s.chan k).state = some .starting
  · rw [slewChan_starting starting]
    exact ⟨le_rfl, nmin (by simp [State.chanState, starting])⟩
  by_cases stopping : (s.chan k).state = some .stopping
  · have bottom : (s.pump k).nmin ≤ 1022 := nmin (by simp [State.chanState, stopping])
    unfold slewChan at run ⊢
    simp only [stopping] at run ⊢
    split at run
    case isTrue =>
      have rested := (enterResting_chan s k).1.1
      split at rested <;> simp [rested.1.run] at run
    case isFalse away =>
      rw [if_neg away]
      simp only [State.setChan_chan, if_true] at run ⊢
      exact slewToward_within _ (reference run) ⟨le_rfl, bottom⟩
  · rw [slewChan_still running starting stopping] at run ⊢
    exact reference run

theorem slewn_moving (s : State) : DispatchMoving s (slewn s) where
  config := by simp
  fits fits k placed := by
    obtain ⟨u, before, after⟩ := slewn_around s k
    rw [fitted_congr (s := s) (by simp)]
    refine fits k fun unplaced => placed ?_
    have state : (u.chan k).state = none := by rw [before.chan]; exact unplaced
    rw [State.chanState, after.chan, slewChan_still (by simp [state]) (by simp [state]) (by simp [state])]
    exact state
  list _ sound := sound.congr (by simp) (by simp)
  nt := by simp [slewn, forChans]

theorem slewn_geared {s : State} (fits : OnlyFitted s) (sound : SpeedsSound s) : Geared (slewn s) where
  pumps k := by
    rw [fitted_congr (s := s) (by simp), pump_congr (s := s) (by simp)]; exact sound.pumps k
  reference k run := by
    obtain ⟨u, before, after⟩ := slewn_around s k
    rw [after.chan] at run ⊢
    have config : u.ctl.config = s.ctl.config := by rw [before.ctl]
    have pump := pump_congr config k
    rw [pump_congr (s := s) (by simp), ← pump]
    refine slewChan_within (fun placed => ?nmin) ?reference (fun running n nt => ?target) run
    case nmin =>
      rw [pump]
      exact (sound.pumps k (fits k (by simpa only [State.chanState, before.chan] using placed))).2
    case reference => rw [pump, before.chan]; exact sound.reference k
    case target =>
      obtain ⟨m, formed, within⟩ := sound.target k (by simpa only [State.isIn, State.chanState, before.chan] using running)
      obtain rfl : m = n := Option.some.inj (formed.symm.trans (before.nt.symm.trans nt))
      rw [pump]; exact within

theorem execSlewTimerExpiry_dispatchKept (s : State) : Leads (DispatchKept s) (execSlewTimerExpiry s) := by
  refine ⟨_, rfl, DispatchKept.trans ?_ (latchesArrive_dispatchKept _)⟩
  split
  · exact (slewn_moving s).settled slewn_geared 0
  · exact .refl s

theorem execStartWindowExpiry_dispatchKept (s : State) (k : Chan) : Leads (DispatchKept s) (execStartWindowExpiry k s) := by
  refine ⟨_, rfl, DispatchKept.trans ?_ (latchesArrive_dispatchKept _)⟩
  split
  case isFalse => exact .refl s
  case isTrue due =>
    split
    · exact (latchFault_moved s k _).settled 1
    · exact (moveChan_on_moved (chanState_ne_none_of_isIn due.1) (by rfl) (by rfl)).settled 0

theorem execRestTimerExpiry_dispatchKept (s : State) (k : Chan) : Leads (DispatchKept s) (execRestTimerExpiry k s) := by
  refine ⟨_, rfl, ?_⟩
  split
  case isFalse => exact .refl s
  case isTrue due =>
    exact (moveChan_off_moved (fun fits => fits k (chanState_ne_none_of_isIn due.1)) (by rfl)).settled 0

end Sys2Proof.Machine
end

section
/-! PROOFS. The rotation list and the speed references at an acceptance and at a reset, and what every step does to them (O59,
O60). -/
namespace Sys2Proof.Machine

/-! ## What a step does to the rotation list and the references -/

/-- `t` is `s` after the acceptance of an image, before which no channel was placed (R105, R180, R181). -/
structure Renewed (s t : State) : Prop where
  early    : s.ctl.step ≠ .selftest ∧ s.ctl.step ≠ .handedOver
  accepted : ∃ img, t.ctl.config = some (configOf img) ∧
    t.disp.rotation = some (settleRotation (configOf img) s.disp.rotation)
  chans    : ∀ k, (t.chan k).state = (s.chan k).state ∧ (t.chan k).run = (s.chan k).run

/-- A part without a configuration whose channels have no state and no outputs (R137, R170). -/
structure Bare (s : State) : Prop where
  config : s.ctl.config = none
  chans  : ∀ k, (s.chan k).state = none ∧ (s.chan k).run = false

/-- What a command does to the rotation list and the references: it keeps them, or accepts a configuration, or resets the part. -/
def Served (s t : State) : Prop := DispatchKept s t ∨ Renewed s t ∨ Bare t

theorem DispatchKept.served {s t : State} (h : DispatchKept s t) : Served s t := .inl h

/-- The outcome of a part that differs in nothing that is read of it. -/
theorem Served.before {s s' t : State} (h : Served s' t) (step : s'.ctl.step = s.ctl.step)
    (config : s'.ctl.config = s.ctl.config) (chans : s'.chans = s.chans) (disp : s'.disp = s.disp) : Served s t := by
  rcases h with kept | ⟨early, accepted, moved⟩ | bare
  · exact .inl (DispatchKept.trans (.of_frame config chans (by rw [disp]) (by rw [disp])) kept)
  · rw [step] at early
    rw [disp] at accepted
    exact .inr (.inl ⟨early, accepted, by simpa only [State.chan, chans] using moved⟩)
  · exact .inr (.inr bare)

theorem Served.after {s t t' : State} (h : Served s t) (config : t'.ctl.config = t.ctl.config) (chans : t'.chans = t.chans)
    (disp : t'.disp = t.disp) : Served s t' := by
  rcases h with kept | ⟨early, accepted, moved⟩ | ⟨none, off⟩
  · exact .inl (kept.trans (.of_frame config chans (by rw [disp]) (by rw [disp])))
  · exact .inr (.inl ⟨early, by rw [config, disp]; exact accepted, by simpa only [State.chan, chans] using moved⟩)
  · exact .inr (.inr ⟨config.trans none, by simpa only [State.chan, chans] using off⟩)

/-! ## Resets, and the judgement of an image (chapter 10) -/

theorem resetBlocks_bare (s : State) (ctl : Controller) (rotation : Option (List Nat)) (config : ctl.config = none) :
    Bare (resetBlocks s ctl rotation) :=
  ⟨config, fun k => by cases k <;> exact ⟨rfl, rfl⟩⟩

theorem judgeImage_served {s : State} (early : s.ctl.step ≠ .selftest ∧ s.ctl.step ≠ .handedOver) (img : List Byte) :
    Served s (judgeImage s img) := by
  unfold judgeImage
  split
  · exact .inl (.of_frame rfl rfl rfl rfl)
  · refine .inr (.inl ⟨early, ⟨img, rfl, rfl⟩, fun k => ?_⟩)
    rw [acceptConfig_chan]
    split <;> exact ⟨rfl, rfl⟩

/-- The end of CLOCKSTART reaches neither configuration, nor channels, nor figures (R173, R175). -/
theorem endClockstart_dispatchKept (s : State) (straps : Straps) : DispatchKept s (endClockstart s straps) := by
  unfold endClockstart enterConfigLoad
  dsimp only
  split <;> exact .of_frame rfl rfl rfl rfl

theorem muteOrder_dispatchKept (s : State) : DispatchKept s (muteOrder s) :=
  .of_frame (by simp) (by simp) (by simp) (by simp)

theorem imageJudged_served {s : State} (step : s.ctl.step = .configLoad) (img : List Byte) :
    Served s (imageJudged (judgeImage (imaged s img) img)) := by
  have judged : Served s (judgeImage (imaged s img) img) :=
    (judgeImage_served (by simp [imaged, step]) img).before rfl rfl rfl rfl
  generalize judgeImage (imaged s img) img = u at judged
  unfold imageJudged; split
  · exact judged.after rfl rfl rfl
  · exact judged

/-- A read that ends outside CONFIG-LOAD is ignored (R176). -/
theorem serialMemoryReadEnd_ignored {s : State} (step : ¬ s.ctl.step = .configLoad) (dataIn : List Bool) :
    exec (.serialMemoryReadEnd dataIn) s = .next s := by
  simp only [exec]
  unfold execSerialMemoryReadEnd
  rw [if_neg step]

theorem execSerialMemoryReadEnd_served (s : State) (dataIn : List Bool) :
    Leads (Served s) (exec (.serialMemoryReadEnd dataIn) s) := by
  by_cases step : s.ctl.step = .configLoad
  · exact ⟨_, serialMemoryReadEnd_eq s step dataIn, imageJudged_served step _⟩
  · exact ⟨s, serialMemoryReadEnd_ignored step dataIn, (DispatchKept.refl s).served⟩

/-! ## The maintenance port (chapter 11) -/

theorem respond_dispatchKept {s : State} (r : Response) : DispatchKept s (respond s r) := .of_frame rfl rfl rfl rfl

theorem doRejoin_dispatchKept (s : State) : DispatchKept s (doRejoin s) := by
  have listening : ∀ u, DispatchKept u (orderListen u) := by
    intro u
    unfold orderListen; split
    · exact .of_frame (by simp) (by simp) (by simp) (by simp)
    · exact .refl u
  unfold doRejoin
  split
  · have cleared : DispatchKept s (s.setSched { s.sched with riverSide := none }) := .of_frame rfl rfl rfl rfl
    exact ((cleared.trans (listening _)).trans (enterJoining_dispatchKept _)).trans (respond_dispatchKept _)
  · exact respond_dispatchKept _

theorem doLeave_dispatchKept (s : State) : DispatchKept s (doLeave s) := by
  unfold doLeave
  split
  · exact DispatchKept.trans (.of_frame (by simp) (by simp) (by simp) (by simp)) (respond_dispatchKept _)
  · exact respond_dispatchKept _

theorem doLoadEnd_served (s : State) : Served s (doLoadEnd s) := by
  unfold doLoadEnd
  split
  case isTrue => exact (respond_dispatchKept _).served
  case isFalse step =>
    have early : s.ctl.step ≠ .selftest ∧ s.ctl.step ≠ .handedOver := by simp [not_not.1 step]
    dsimp only
    split <;> exact (judgeImage_served early _).after rfl rfl rfl

theorem execute_served (s : State) (r : Request) : Served s (execute s r) := by
  cases r with
  | view n =>
    unfold execute doView; dsimp only
    split <;> exact (respond_dispatchKept _).served
  | pump k =>
    unfold execute doPump; dsimp only
    split <;> exact (respond_dispatchKept _).served
  | clearFaults => exact ((clearFaultLatches_dispatchKept s).trans (respond_dispatchKept _)).served
  | leave => exact (doLeave_dispatchKept s).served
  | rejoin => exact (doRejoin_dispatchKept s).served
  | load offset bytes =>
    unfold execute doLoad; dsimp only
    repeat' split
    all_goals exact .inl (.of_frame rfl rfl rfl rfl)
  | loadEnd => exact doLoadEnd_served s
  | clearLine | status | line | cause => exact .inl (.of_frame rfl rfl rfl rfl)

theorem executeLine_served (s : State) (l : CompletedLine) : Served s (executeLine s l) := by
  unfold executeLine; split
  · exact (respond_dispatchKept _).served
  · exact execute_served s _

theorem submitLine_served (s : State) (l : CompletedLine) : Served s (submitLine s l) := by
  unfold submitLine; split
  · exact .inl (.of_frame rfl rfl rfl rfl)
  · exact executeLine_served s l

theorem submitRequest_served (s : State) (r : Request) : Leads (Served s) (.next (submitRequest s r)) := by
  refine ⟨_, rfl, ?_⟩
  unfold submitRequest; split
  · exact submitLine_served s _
  · exact (DispatchKept.refl s).served

theorem execCharacterReceived_served (s : State) (c : Byte) (stopLow : Bool) :
    Leads (Served s) (execCharacterReceived c stopLow s) := by
  have stored : ∀ x, Served s (s.setMaint x) := fun _ => .inl (.of_frame rfl rfl rfl rfl)
  refine ⟨_, rfl, ?_⟩
  split
  case isFalse => exact (DispatchKept.refl s).served
  case isTrue =>
    obtain ⟨x, marked⟩ : ∃ x, (if stopLow then markBad s else s) = s.setMaint x := by
      split
      · exact ⟨_, rfl⟩
      · exact ⟨s.maint, rfl⟩
    rw [marked]
    dsimp only
    split
    · unfold completeLine
      dsimp only
      split
      · exact stored _
      · exact (submitLine_served _ _).before rfl rfl rfl rfl
    · split
      · exact stored x
      · unfold appendChar
        split <;> exact stored _

theorem execResponseEnd_served (s : State) : Leads (Served s) (execResponseEnd s) := by
  refine ⟨_, rfl, ?_⟩
  split
  case isFalse => exact (DispatchKept.refl s).served
  case isTrue =>
    dsimp only
    split
    · exact (executeLine_served _ _).before rfl rfl rfl rfl
    · exact .inl (.of_frame rfl rfl rfl rfl)

/-! ## Every command and every step -/

/-- What a command keeps is one of the outcomes. -/
theorem Leads.served {s : State} {o : Host.Outcome State Fault Refusal} (h : Leads (DispatchKept s) o) :
    Leads (Served s) o := by
  obtain ⟨t, run, kept⟩ := h
  exact ⟨t, run, kept.served⟩

theorem exec_served (i : Instr) (s : State) : Leads (Served s) (exec i s) := by
  have clocked : ∀ x : Controller, x.config = s.ctl.config → DispatchKept s (s.setCtl x) := fun _ config =>
    .of_frame config rfl rfl rfl
  cases i with
  | powerOn | externalReset => exact ⟨_, rfl, .inr (.inr (resetBlocks_bare _ _ _ rfl))⟩
  | brownOut =>
    refine ⟨_, rfl, ?_⟩
    split
    · exact (DispatchKept.refl s).served
    · exact .inr (.inr (resetBlocks_bare _ _ _ rfl))
  | serialMemoryReadEnd dataIn => exact execSerialMemoryReadEnd_served s dataIn
  | resetRelease | powerUpDelayExpiry | brownOutEnd | conversionEnd input current | receiverSync | lineFaultTimerExpiry stuck
  | secondsTick | ageingTimerExpiry =>
    refine Leads.served ⟨_, rfl, ?_⟩
    dsimp only
    repeat' split
    all_goals exact .of_frame rfl rfl rfl rfl
  | crystalStart straps =>
    refine Leads.served ⟨_, rfl, ?_⟩
    split
    · exact (clocked _ (by rfl)).trans (endClockstart_dispatchKept _ _)
    · exact .refl s
  | clockStartWindowExpiry straps =>
    refine Leads.served ⟨_, rfl, ?_⟩
    split
    · exact ((clocked _ (by rfl)).trans (muteOrder_dispatchKept _)).trans (endClockstart_dispatchKept _ _)
    · exact .refl s
  | clockMonitorFallback =>
    refine Leads.served ⟨_, rfl, ?_⟩
    split
    · exact (clocked _ (by rfl)).trans (muteOrder_dispatchKept _)
    · exact .refl s
  | driveFailure f | stuckLine f | reportTimerExpiry =>
    refine Leads.served ⟨_, rfl, ?_⟩
    split
    · exact .of_frame (by simp) (by simp) (by simp) (by simp)
    · exact .refl s
  | spacingTimerExpiry =>
    refine Leads.served ⟨_, rfl, ?_⟩
    split
    · dsimp only
      split <;> exact .of_frame (by simp) (by simp) (by simp) (by simp)
    · exact .refl s
  | transmissionComplete =>
    refine Leads.served ⟨_, rfl, ?_⟩
    split
    · exact .refl s
    · dsimp only
      unfold stageCompleted
      split <;> exact .of_frame (by simp) (by simp) (by simp) (by simp)
  | selftestEnd bytes =>
    refine Leads.served ⟨_, rfl, ?_⟩
    repeat' split
    all_goals first
      | exact .refl s
      | exact handOver_dispatchKept s _ _
  | scanTimerExpiry contacts => exact (execScanTimerExpiry_dispatchKept s contacts).served
  | scanCompletion => exact (scanCompletion_dispatchKept s).served
  | faultResetSample active => exact (execFaultResetSample_dispatchKept s active).served
  | slotStart idle dominant => exact (execSlotStart_dispatchKept s idle dominant).served
  | contentionLoss => exact (execContentionLoss_dispatchKept s).served
  | stageReportReceived f | startNoticeReceived f | quitNoticeReceived f | badFrame f =>
    exact ⟨_, rfl, (receiveFrame_dispatchKept s f).served⟩
  | listenTimerExpiry => exact (execListenTimerExpiry_dispatchKept s).served
  | allocationTimerExpiry => exact (execAllocationTimerExpiry_dispatchKept s).served
  | allocationCompletion => exact (execAllocationCompletion_dispatchKept s).served
  | holdOffExpiry => exact (execHoldOffExpiry_dispatchKept s).served
  | slewTimerExpiry => exact (execSlewTimerExpiry_dispatchKept s).served
  | startWindowExpiry k => exact (execStartWindowExpiry_dispatchKept s k).served
  | restTimerExpiry k => exact (execRestTimerExpiry_dispatchKept s k).served
  | characterReceived c stopLow => exact execCharacterReceived_served s c stopLow
  | responseEnd => exact execResponseEnd_served s
  | status | view n | pump k | line | cause | clearFaults | clearLine | leave | rejoin | load offset bytes | loadEnd =>
    exact submitRequest_served s _

/-- Each step is served so, and an empty queue leaves the part as it is. -/
theorem step_served {s t : State} (next : step s = .next t) : Served s t := by
  unfold step at next
  split at next
  · cases next; exact (DispatchKept.refl s).served
  case h_2 c rest _ =>
    obtain ⟨u, run, served⟩ := exec_served c { s with pending := rest }
    obtain rfl : u = t := Host.Outcome.next.inj (run.symm.trans next)
    exact served.before rfl rfl rfl rfl

/-! ## The rotation list (O59) -/

/-- An acceptance leaves the settled list (R105). -/
theorem Renewed.rotationSound {s t : State} (h : Renewed s t) : RotationSound t := by
  obtain ⟨img, config, rotation⟩ := h.accepted
  obtain ⟨once, members⟩ := settleRotation_complete (configOf img) s.disp.rotation
  have fitted : ∀ k, t.fitted k = (quadGet (configOf img).pumps k).fitted := fun k => by
    simp [State.fitted, State.pump, State.cfg, config]
  refine fun _ => ⟨_, rotation, once, fun n => ?_⟩
  rw [members, mem_fittedNums]
  simp only [fitted, and_comm]

/-- Settles O59: a step keeps the list, settles it at an acceptance, or leaves no configuration (`step_served`). -/
theorem everyStepKeepsTheRotationListComplete : Obligations.EveryStepKeepsTheRotationListComplete := by
  intro s t sequence sound next
  rcases step_served next with kept | renewed | bare
  · exact kept.list sequence.fitted sound
  · exact renewed.rotationSound
  · exact fun accepted => absurd accepted (by simp [bare.config])

/-! ## The speed references (O60) -/

/-- A part whose fitted pumps have nmin in range and whose channels stand without state and output. -/
theorem speedsSound_of_still {t : State} (pumps : ∀ k, t.fitted k = true → 100 ≤ (t.pump k).nmin ∧ (t.pump k).nmin ≤ 1022)
    (still : ∀ k, (t.chan k).state = none ∧ (t.chan k).run = false) : SpeedsSound t where
  pumps := pumps
  reference k run := absurd run (by simp [still k])
  target k running := absurd running (by simp [State.isIn, State.chanState, still k])

/-- Before an acceptance no channel is placed, so none has its run output active (R137, R140). -/
theorem Renewed.speedsSound {s t : State} (h : Renewed s t) (sequence : StartSequence s) (consistent : ChannelsConsistent s) :
    SpeedsSound t := by
  obtain ⟨img, config, -⟩ := h.accepted
  refine speedsSound_of_still (fun k fits => ?_) fun k => ?_
  · have pump : t.pump k = quadGet (configOf img).pumps k := by simp [State.pump, State.cfg, config]
    rw [State.fitted, pump] at fits
    rw [pump]
    exact (configOf_pump_ranged img k fits).nmin
  · have unplaced : (s.chan k).state = none := sequence.unplaced h.early.2 k
    rw [(h.chans k).1, (h.chans k).2, (consistent k).run, unplaced]
    exact ⟨rfl, rfl⟩

/-- Settles O60: a step keeps the references in range, or leaves every channel still (`step_served`). -/
theorem everyStepKeepsTheSpeedReferencesInRange : Obligations.EveryStepKeepsTheSpeedReferencesInRange := by
  intro s t sequence consistent sound next
  rcases step_served next with kept | renewed | bare
  · exact kept.speeds sequence.fitted sound
  · exact renewed.speedsSound sequence consistent
  · refine speedsSound_of_still (fun k fits => ?_) bare.chans
    have none : t.cfg = .blank := by simp [State.cfg, bare.config]
    rw [State.fitted, State.pump, none] at fits
    exact absurd fits (by cases k <;> decide)

end Sys2Proof.Machine
end

section
/-! PROOFS. The decision of a completion and the re-check at the hold-off expiry (sections 6.4, 7.2 and 7.4). -/
namespace Sys2Proof.Machine

/-! ## The conditions of a start (R106, R108, R120, R121) -/

theorem guardHolds_iff (s : State) :
    guardHolds s = true ↔ ∀ r ∈ s.view.records, r.status ≠ .quit → ∀ p, r.pending = some p → p.yielded = true := by
  unfold guardHolds
  rw [List.all_eq_true]
  refine forall₂_congr fun r _ => ?_
  cases r.pending <;> simp [or_iff_not_imp_left]

theorem powerHolds_iff (s : State) (k : Chan) : powerHolds s k = true ↔ feederSum s k ≤ min s.cfg.pFeed 60000 :=
  decide_eq_true_iff

theorem recheckHolds_iff (s : State) (k : Chan) :
    recheckHolds s k = true ↔
      (∀ r ∈ s.view.records, r.status ≠ .quit → ∀ p, r.pending = some p → p.yielded = true) ∧
        feederSum s k ≤ min s.cfg.pFeed 60000 ∧ s.disp.crun < s.alloc.qTgt := by
  rw [recheckHolds, Bool.and_eq_true, Bool.and_eq_true, guardHolds_iff, powerHolds_iff, decide_eq_true_iff, and_assoc]

/-- No own channel stands in NOTICE or STARTING (R120). -/
theorem oneStart_iff (s : State) : oneStart s = true ↔ ∀ j, s.starts j = false := by
  rw [oneStart, Bool.not_eq_true', ← Bool.not_eq_true, anyChan_iff]
  simp [State.starts]

/-! ## What the end of an event keeps -/

@[simp] theorem settle_chan (s0 : State) (n : Nat) (s : State) (k : Chan) : (settle s0 n s).chan k = s.chan k := by
  simp [State.chan]

theorem SpeedTargetFormed.of_nt {s u t : State} (h : SpeedTargetFormed u t) (nt : u.disp.nt = s.disp.nt) :
    SpeedTargetFormed s t :=
  ⟨h.formed, fun idle => (h.kept idle).trans nt⟩

/-- A channel that enters or leaves R is an occasion to form n_t (R111). -/
theorem speedTargetDue_of_inR {s0 s : State} {k : Chan} (h : s0.inR k ≠ s.inR k) : speedTargetDue s0 s = true := by
  have differ : rSet s0 ≠ rSet s := fun same => h (by simpa only [rSet, quadGet_quadOf] using congrArg (quadGet · k) same)
  simp [speedTargetDue, differ]

/-! ## The hold-off expiry (R129, R131) -/

/-- The station with its notice and hold-off gone (R129). -/
def noticeDone (s : State) : State := s.setArb { s.arb with notice := none, holdOff := none }

/-- The order that follows the re-check (R129). -/
def rechecked (s : State) (k : Chan) : State :=
  if recheckHolds s k then startOrder (noticeDone s) k else backToIdle (noticeDone s) k

theorem holdOffExpiry_eq {s : State} {n : OwnNotice} (notice : s.arb.notice = some n) (holds : s.arb.holdOff.isSome = true) :
    exec .holdOffExpiry s = .next (settle s 0 (rechecked s n.channel)) := by
  simp only [exec, execHoldOffExpiry, notice, holds, if_true]
  rfl

@[simp] theorem rechecked_frame (s : State) (k : Chan) :
    (rechecked s k).ctl = s.ctl ∧ (rechecked s k).acq = s.acq ∧ (rechecked s k).sup = s.sup ∧ (rechecked s k).allow = s.allow ∧
      (rechecked s k).maint = s.maint ∧ (rechecked s k).arb = (noticeDone s).arb := by
  unfold rechecked; split <;> simp [noticeDone]

/-- The channel that a start order reaches in NOTICE (R131, R147). -/
def started (s : State) (k : Chan) : Channel :=
  { s.chan k with
    state := some .starting, run := true, reference := (s.pump k).nmin, window := some (s.cfg.tStart * 1000), rest := none }

theorem startOrder_chan {s : State} {k : Chan} (notice : s.isIn k .notice = true) (j : Chan) :
    (startOrder s k).chan j = if j = k then started s k else s.chan j := by
  simp only [startOrder, if_pos notice, State.setDisp_chan, moveChan_chan]
  rfl

theorem startOrder_rotation {s : State} {k : Chan} (notice : s.isIn k .notice = true) :
    (startOrder s k).disp.rotation = s.disp.rotation.map fun l => l.filter (· != chanNum k) ++ [chanNum k] := by
  simp [startOrder, if_pos notice]

theorem startOrder_nt (s : State) (k : Chan) : (startOrder s k).disp.nt = s.disp.nt := by
  unfold startOrder; split <;> simp

theorem startOrder_speedTargetDue {s : State} {k : Chan} (notice : s.isIn k .notice = true) :
    speedTargetDue s (startOrder (noticeDone s) k) = true := by
  have state : s.chanState k = some .notice := by simpa [State.isIn] using notice
  refine speedTargetDue_of_inR (k := k) ?_
  simp [State.inR, State.isIn, State.chanState, startOrder_chan (s := noticeDone s) notice, started] at state ⊢
  simp [state]

theorem rechecked_other {s : State} {j k : Chan} (notice : s.isIn k .notice = true) (other : j ≠ k) :
    (rechecked s k).chan j = s.chan j := by
  unfold rechecked; split
  · rw [startOrder_chan (s := noticeDone s) notice, if_neg other]; rfl
  · rw [backToIdle_chan, if_neg (fun h => other h.1)]; rfl

/-- Settles O46: by the outcome of the re-check. -/
theorem theHoldOffEndsInAStartOrInIdle : Obligations.TheHoldOffEndsInAStartOrInIdle := by
  intro n s notice holdOff waiting k guard holds
  have waits : (noticeDone s).isIn k .notice = true := waiting
  have arb : (settle s 0 (rechecked s k)).arb = (noticeDone s).arb := by
    rw [settle_arb _ _ _ (by simp [noticeDone])]; simp
  refine ⟨_, holdOffExpiry_eq notice holdOff, by rw [arb]; rfl, by rw [arb]; rfl, by rw [arb]; rfl, fun j other => ?other,
    settle_formed _ _ _, by simp, by simp, by simp, by simp, by simp, fun held => ?starts, fun fails => ?idle⟩
  case other => rw [settle_chan, rechecked_other waiting other]
  case starts =>
    have order : rechecked s k = startOrder (noticeDone s) k := if_pos ((recheckHolds_iff s k).2 held)
    rw [order, settle_chan, startOrder_chan waits, if_pos rfl]
    refine ⟨rfl, rfl, rfl, rfl, ?_, ?_⟩
    · rw [(settle_disp_kept _ _ _).1, startOrder_rotation waits]; rfl
    · exact (settle_speedTarget s 0 _ (startOrder_speedTargetDue waiting)).of_nt (startOrder_nt _ _)
  case idle =>
    have order : rechecked s k = backToIdle (noticeDone s) k := if_neg (fun ok => fails ((recheckHolds_iff s k).1 ok))
    rw [order, settle_chan, backToIdle_chan, if_pos ⟨rfl, waits⟩]
    exact ⟨parked_off _ _, by simp [noticeDone]⟩

/-! ## The start request (R120, R122, R145) -/

/-- The START that a taken request offers (R122). -/
def startOf (s : State) (k : Chan) : StartPayload := ⟨chanNum k, s.alloc.urgency, (s.pump k).power, s.arb.counter⟩

/-- The notice of a taken request (R122). -/
def noticeOf (s : State) (k : Chan) : OwnNotice := ⟨k, s.alloc.urgency, (s.pump k).power, s.arb.counter, .queued⟩

/-- A taken request before its START is offered: the channel in NOTICE, and the next number used up (R122). -/
def noticed (s : State) (k : Chan) : State :=
  (moveChan s k (parked (s.chan k) .notice)).setArb
    { s.arb with notice := some (noticeOf s k), counter := (s.arb.counter + 1) % 256 }

theorem startRequest_dropped {s : State} {k : Chan} (fails : ¬ (guardHolds s = true ∧ powerHolds s k = true)) :
    startRequest s k = s := by
  refine if_neg fun holds => fails ?_
  simp only [Bool.and_eq_true] at holds
  exact ⟨holds.1.1.2, holds.1.2⟩

theorem startRequest_taken {s : State} {k : Chan} (one : oneStart s = true) (guarded : guardHolds s = true)
    (power : powerHolds s k = true) (idle : s.isIn k .idle = true) :
    startRequest s k = if s.port.state = .active then
        (noticed s k).setPort { s.port with queue := { s.port.queue with start := some (startOf s k) } }
      else startHoldOff (noticed s k) (noticeOf s k) := by
  have ended : startEnded (noticed s k) s.arb.counter = startHoldOff (noticed s k) (noticeOf s k) := if_pos rfl
  rw [startRequest, if_pos (by simp [one, guarded, power, idle]), ← ended]
  simp [noticed, noticeOf, startOf]

theorem startRequest_disp (s : State) (k : Chan) :
    (startRequest s k).disp = s.disp ∨ (startRequest s k).disp = (noticed s k).disp := by
  by_cases holds : (oneStart s && guardHolds s && powerHolds s k && s.isIn k .idle) = true
  · simp only [Bool.and_eq_true] at holds
    obtain ⟨⟨⟨one, guarded⟩, power⟩, idle⟩ := holds
    rw [startRequest_taken one guarded power idle]
    split <;> exact .inr rfl
  · exact .inl (congrArg State.disp (if_neg holds))

/-! ## The decision of a completion (R106, R111) -/

theorem dispatchAct_chan (s : State) (k : Chan) : (dispatchAct s).chan k = (decide4 s).chan k := by
  simp [dispatchAct, State.chan]

/-- A decision moves channels; it touches neither the rotation list nor n_t. -/
theorem decide4_rotation_nt (s : State) : (decide4 s).disp.rotation = s.disp.rotation ∧ (decide4 s).disp.nt = s.disp.nt := by
  have requested : ∀ k, (startRequest s k).disp.rotation = s.disp.rotation ∧ (startRequest s k).disp.nt = s.disp.nt := fun k => by
    rcases startRequest_disp s k with disp | disp <;> rw [disp] <;> simp [noticed]
  unfold decide4
  dsimp only
  split
  · simp [forChans]
  · repeat' split
    all_goals simp [requested]

theorem dispatchAct_rotation (s : State) : (dispatchAct s).disp.rotation = s.disp.rotation := by
  rw [dispatchAct, formNt_disp]
  simp [decide4_rotation_nt]

theorem dispatchAct_formed (s : State) : FiguresFormed (dispatchAct s) :=
  (settle_formed s 0 (decide4 s)).congr (by simp [dispatchAct]) (by simp [dispatchAct]) (formNt_disp _)

theorem formNt_speedTarget (s : State) : SpeedTargetFormed s (formNt s) := by
  have stands : ∀ j, (formNt s).isIn j .running = s.isIn j .running := fun j => by simp [State.isIn, State.chanState, State.chan]
  have pump : ∀ j, (formNt s).pump j = s.pump j := fun j => pump_congr (by simp) j
  constructor
  · simp only [stands, pump]
    intro running
    have any : (anyChan fun k => s.isIn k .running) = true := (anyChan_iff _).2 running
    obtain ⟨largest, attained⟩ := nLo_largest s running
    refine ⟨nLo s, largest, attained, ?_⟩
    simp only [formNt, any, if_true]
    rfl
  · simp only [stands]
    exact fun idle => by rw [formNt_idle s idle]

theorem dispatchAct_speedTarget (s : State) : SpeedTargetFormed s (dispatchAct s) where
  formed := (formNt_speedTarget _).formed
  kept := fun idle => by
    have still : ∀ k, (decide4 s).isIn k .running = false := fun k => by
      simpa [State.isIn, State.chanState, dispatchAct_chan] using idle k
    have settled : ∀ k, (settle s 0 (decide4 s)).isIn k .running = false := by
      simpa [State.isIn, State.chanState] using still
    rw [dispatchAct, formNt_idle _ settled, settle_nt_idle _ _ _ still, (decide4_rotation_nt s).2]

theorem completion_decides {s : State} {x : Snapshot} (computing : s.alloc.snapshot = some x) (reporting : s.reporting = true)
    (quiet : NoneOffered s) : exec .allocationCompletion s = .next (dispatchAct (publishAllocation s x)) := by
  rw [allocationCompletion_eq computing quiet, if_pos reporting]

theorem dispatchAct_target (s : State) : (dispatchAct s).alloc.qTgt = s.alloc.qTgt := by
  rw [(dispatchAct_frame s).2.2.2.2.2.2]

/-! ## Q_tgt 0 (R107) -/

theorem stopAll_chan (s : State) (k : Chan) :
    (forChans stopOrder s).chan k =
      if s.inR k = true then { s.chan k with state := some .stopping, window := none } else s.chan k := by
  obtain ⟨u, before, after⟩ := forChans_around (R := fun s t => t.chan k = s.chan k) (fun _ => rfl)
    (fun h g => g.trans h) k (fun s j other => by rw [stopOrder_chan, if_neg (fun h => other h.1)]) (f := stopOrder) s
  have inR : u.inR k = s.inR k := by simp only [State.inR, State.isIn, State.chanState, before]
  rw [after, stopOrder_chan, before, inR]
  simp

/-- The decision while Q_tgt is 0 (R107). -/
def allStopped (s : State) : State := withdrawNotice (forChans stopOrder s)

theorem allStopped_chan (s : State) (k : Chan) :
    (allStopped s).chan k =
      if s.inR k = true then { s.chan k with state := some .stopping, window := none }
      else if s.isIn k .notice = true ∧ s.arb.notice.map (·.channel) = some k then parked (s.chan k) .idle
      else s.chan k := by
  have stopped := stopAll_chan s k
  have arb : (forChans stopOrder s).arb = s.arb := by simp [forChans]
  have waiting : (forChans stopOrder s).isIn k .notice = true ↔ s.inR k = false ∧ s.isIn k .notice = true := by
    simp only [State.isIn, State.chanState, stopped]
    split
    case isTrue inR => simp [inR]
    case isFalse out => simp [out]
  cases notice : s.arb.notice with
  | none => rw [allStopped, withdrawNotice_none _ (by rw [arb, notice]), stopped]; simp
  | some n =>
    rw [allStopped, withdrawNotice_chan _ n (by rw [arb, notice])]
    by_cases named : n.channel = k
    · subst named
      simp only [waiting, stopped]
      cases s.inR n.channel <;> simp
    · rw [if_neg (fun h => named h.1.symm), stopped]
      simp [named]

theorem allStopped_notR (s : State) (k : Chan) : (allStopped s).inR k = false := by
  have chan := allStopped_chan s k
  by_cases inR : s.inR k = true
  · rw [if_pos inR] at chan
    simp [State.inR, State.isIn, State.chanState, chan]
  · rw [if_neg inR] at chan
    split at chan
    · simp [State.inR, State.isIn, State.chanState, chan, parked]
    · simpa only [State.inR, State.isIn, State.chanState, chan, Bool.not_eq_true] using inR

theorem allStopped_notice (s : State) {n : OwnNotice} (notice : s.arb.notice = some n) :
    (allStopped s).arb.notice = none ∧ (allStopped s).arb.holdOff = none := by
  have arb : (forChans stopOrder s).arb = s.arb := by simp [forChans]
  obtain ⟨gone, -, holdOff⟩ := dropNotice_arb (forChans stopOrder s)
  rw [allStopped, withdrawNotice_arb]
  exact ⟨gone, holdOff (.inl (by simp [arb, notice]))⟩

theorem dispatchAct_zero {s : State} (zero : s.alloc.qTgt = 0) : dispatchAct s = settle s 0 (allStopped s) := by
  have decided : decide4 s = allStopped s := if_pos zero
  rw [dispatchAct, decided, formNt_idle]
  intro k
  have := allStopped_notR s k
  simp only [State.inR, Bool.or_eq_false_iff] at this
  simpa [State.isIn, State.chanState] using this.2

/-- Settles O43: `allStopped` is the decision, and it leaves R empty. -/
theorem aZeroTargetStopsEveryPump : Obligations.AZeroTargetStopsEveryPump := by
  intro x s computing reporting quiet
  refine ⟨_, completion_decides computing reporting quiet, fun zero => ?_⟩
  rw [dispatchAct_target] at zero
  have chan : ∀ k, (dispatchAct (publishAllocation s x)).chan k =
      if s.inR k = true then { s.chan k with state := some .stopping, window := none }
      else if s.isIn k .notice = true ∧ s.arb.notice.map (·.channel) = some k then parked (s.chan k) .idle
      else s.chan k := fun k => by
    rw [dispatchAct_zero zero, settle_chan]
    exact allStopped_chan _ k
  have nothing : crunOf (allStopped (publishAllocation s x)) = 0 := by simp [crunOf, sumChans, allStopped_notR]
  have idle : ∀ k, (dispatchAct (publishAllocation s x)).isIn k .running = false := fun k => by
    have out := allStopped_notR (publishAllocation s x) k
    rw [State.inR, Bool.or_eq_false_iff] at out
    rw [dispatchAct_zero zero]
    simpa only [State.isIn, State.chanState, settle_chan] using out.2
  refine ⟨fun k inR => by rw [chan, if_pos inR], fun k out still => by simp [chan, out, still], fun n notice => ?withdrawn, ?crun,
    (dispatchAct_speedTarget _).kept idle, dispatchAct_rotation _, dispatchAct_formed _⟩
  case withdrawn =>
    obtain ⟨gone, stopped⟩ := allStopped_notice (publishAllocation s x) notice
    rw [dispatchAct_zero zero, settle_arb _ _ _ gone, ← dispatchAct_zero zero]
    refine ⟨gone, stopped, fun waits => ?_⟩
    have out : s.inR n.channel = false := by
      simp only [State.isIn, beq_iff_eq] at waits
      simp [State.inR, State.isIn, waits]
    rw [chan, if_neg (by simp [out]), if_pos ⟨waits, by simp [notice]⟩]
    exact parked_off _ _
  case crun => rw [dispatchAct_zero zero, (settle_disp_kept _ _ _).2.2.2.2.2.2.1, nothing]

/-! ## The front-most channel and the count of R (R104, R106) -/

/-- The first entry of the rotation list whose channel is in a state is the front-most channel in it (R104). -/
theorem frontMost_eq {s : State} {x : ChanState} {k : Chan} {before after : List Nat}
    (rotation : s.disp.rotation = some (before ++ chanNum k :: after)) (here : s.isIn k x = true)
    (front : ∀ j, s.isIn j x = true → chanNum j ∉ before) : frontMost s x = some k := by
  have none : (before.filterMap chanOfNum).find? (fun j => s.isIn j x) = none := by
    rw [List.find?_eq_none]
    intro j member inState
    obtain ⟨n, listed, num⟩ := List.mem_filterMap.1 member
    have : n = chanNum j := by unfold chanOfNum at num; split at num <;> cases num <;> rfl
    exact front j inState (this ▸ listed)
  rw [frontMost, rotation, Option.getD_some, List.filterMap_append, List.find?_append, none, Option.none_or,
    List.filterMap_cons, chanOfNum_chanNum, List.find?_cons, here]

theorem rCount_pos_iff (s : State) : 0 < rCount s ↔ ∃ j, s.inR j = true := by
  constructor
  · intro pos
    by_contra none
    simp only [not_exists, Bool.not_eq_true] at none
    simp [rCount, sumChans, none] at pos
  · rintro ⟨j, inR⟩
    cases j <;> simp [rCount, sumChans, inR]

theorem two_le_rCount_iff (s : State) : 2 ≤ rCount s ↔ ∃ i j, i ≠ j ∧ s.inR i = true ∧ s.inR j = true := by
  constructor
  · intro two
    obtain ⟨i, inR⟩ := (rCount_pos_iff s).1 (by omega)
    by_contra alone
    have others : ∀ j, i ≠ j → s.inR j = false := fun j other => by
      by_contra h
      exact alone ⟨i, j, other, inR, by simpa using h⟩
    cases i <;> simp [rCount, sumChans, others, inR] at two
  · rintro ⟨i, j, other, inR, inR'⟩
    cases i <;> cases j <;> simp [rCount, sumChans, inR, inR'] at other ⊢ <;> omega

/-! ## A stop of a channel that is not needed (R109, R110) -/

/-- Whether the front-most RUNNING channel is taken out: the others carry 90 percent of what stands without it, or it is alone
and the target is below its Qmin (R109, R110). -/
def takesOut (s : State) (k : Chan) : Prop :=
  (2 ≤ rCount s ∧ s.alloc.qTgt ≤ (s.disp.crun - s.qmax k) * 9 / 10) ∨ (¬ 2 ≤ rCount s ∧ s.alloc.qTgt < s.qmin k)

theorem decide4_enough {s : State} {k : Chan} (positive : 0 < s.alloc.qTgt) (enough : s.alloc.qTgt ≤ s.disp.crun)
    (front : frontMost s .running = some k) (inR : s.inR k = true) :
    (takesOut s k → decide4 s = stopOrder s k) ∧ (¬ takesOut s k → decide4 s = s) := by
  have one : 0 < rCount s := (rCount_pos_iff s).2 ⟨k, inR⟩
  have decided : decide4 s =
      if 2 ≤ rCount s ∧ s.alloc.qTgt ≤ (s.disp.crun - s.qmax k) * 9 / 10 then stopOrder s k
      else if rCount s = 1 ∧ s.alloc.qTgt < s.qmin k then stopOrder s k else s := by
    unfold decide4
    rw [if_neg (by omega), if_neg (by omega), front]
  rw [decided]
  constructor
  · rintro (⟨two, few⟩ | ⟨alone, below⟩)
    · exact if_pos ⟨two, few⟩
    · rw [if_neg (fun h => alone h.1)]
      exact if_pos ⟨by omega, below⟩
  · intro stays
    rw [if_neg (fun h => stays (.inl h))]
    exact if_neg fun h => stays (.inr ⟨by omega, h.2⟩)

/-- Settles O45: both rules order the same stop (`takesOut`). -/
theorem aPumpIsTakenOutWhenFewerCanCarryTheTarget : Obligations.APumpIsTakenOutWhenFewerCanCarryTheTarget := by
  intro x s k before after computing reporting quiet rotation running front
  refine ⟨_, completion_decides computing reporting quiet, ?_⟩
  intro positive enough several out
  rw [dispatchAct_target] at positive enough
  have inR : s.inR k = true := by simp [State.inR, running]
  obtain ⟨taken, stays⟩ := decide4_enough (s := publishAllocation s x) positive enough (frontMost_eq rotation running front) inR
  have out_iff : out ↔ takesOut (publishAllocation s x) k := by
    have count : 2 ≤ rCount (publishAllocation s x) ↔ several := two_le_rCount_iff _
    rw [takesOut, count, ← dispatchAct_target]; rfl
  refine ⟨fun leaves => ?leaves, fun remains => ?remains, dispatchAct_rotation _, dispatchAct_formed _,
    (dispatchAct_speedTarget _).of_nt rfl⟩
  case leaves =>
    have decided := taken (out_iff.1 leaves)
    constructor
    · rw [dispatchAct_chan, decided, stopOrder_chan, if_pos ⟨rfl, inR⟩]; rfl
    · intro j other
      rw [dispatchAct_chan, decided, stopOrder_chan, if_neg (fun h => other h.1)]; rfl
  case remains =>
    have decided := stays (fun h => remains (out_iff.2 h))
    have chans : (dispatchAct (publishAllocation s x)).chans = (decide4 (publishAllocation s x)).chans := by simp [dispatchAct]
    rw [chans, decided]; rfl

/-! ## A request for the front-most IDLE channel (R108, R120 to R123) -/

theorem startPermitted_iff (s : State) (k : Chan) :
    startPermitted s k = true ↔ 0 < s.qmax k ∧ ((∃ j, s.inR j = true) ∨ s.qmin k ≤ s.alloc.qTgt) ∧
      (∀ j, s.starts j = false) ∧ s.disp.lockout = false := by
  rw [← oneStart_iff, ← rCount_pos_iff]
  simp [startPermitted, and_assoc]

/-- The feeder sum counts an aged report as a fresh one, and a yielded start or one of a station that has quit not at all (R121). -/
theorem feederTerm_eq (r : PeerRecord) : feederTerm r =
    (match r.report, r.status with
      | some p, .fresh => p.runPower
      | some p, .aged => p.runPower
      | some p, .lost => p.instPower
      | _, _ => 0)
    + (match r.pending with
      | some p => if r.status = .quit ∨ p.yielded = true then 0 else p.power
      | none => 0) := by
  unfold feederTerm
  congr 1
  · cases r.report
    · rfl
    · cases status : r.status <;> simp [heard, status]
  · cases r.pending <;> simp

theorem decide4_short {s : State} {k : Chan} (short : s.disp.crun < s.alloc.qTgt) (front : frontMost s .idle = some k) :
    decide4 s = if startPermitted s k then startRequest s k else s := by
  unfold decide4
  rw [if_neg (by omega), if_pos short, front]

/-- An IDLE channel that is not in the hand-running set stays out of it at a request (R102). -/
theorem startRequest_hand {s : State} {k : Chan} (out : quadGet s.disp.hand k = false) :
    (startRequest s k).disp.hand = s.disp.hand := by
  rcases startRequest_disp s k with disp | disp <;> rw [disp]
  have entry : (noticed s k).disp.hand = quadSet s.disp.hand k false := moveChan_hand s k _
  have same : ∀ q : Quad Bool, quadGet q k = false → quadSet q k false = q := by
    intro q h; cases k <;> cases q <;> simp_all [quadGet, quadSet]
  rw [entry, same _ out]

/-- A decision of a COORDINATING station that leaves E_hand ends in the dispatch figures alone (R103, R111). -/
theorem dispatchAct_quiet {s : State} (coordinating : s.sched.coord = some .coordinating)
    (hand : s.disp.eHand = eHandOf (decide4 s)) :
    (dispatchAct s).chans = (decide4 s).chans ∧ (dispatchAct s).arb = (decide4 s).arb ∧ (dispatchAct s).port = (decide4 s).port := by
  rw [dispatchAct, settle_quiet s (decide4 s) (by simp [coordinating]) hand]
  simp

/-- Settles O44: `startRequest_taken` and `startRequest_dropped` are the two outcomes. -/
theorem aStartIsRequestedWhenTheRunningSetIsShort : Obligations.AStartIsRequestedWhenTheRunningSetIsShort := by
  intro x s k before after computing coordinating quiet formed out rotation idle front
  have reporting : s.reporting = true := by simp [State.reporting, coordinating]
  refine ⟨_, completion_decides computing reporting quiet, ?_⟩
  intro short permitted guard power
  rw [dispatchAct_target] at short
  set p := publishAllocation s x
  have decided : decide4 p = if startPermitted p k then startRequest p k else p := decide4_short short (frontMost_eq rotation idle front)
  have permitted_iff : permitted ↔ startPermitted p k = true := by rw [startPermitted_iff, ← dispatchAct_target]; rfl
  have guard_iff : guard ↔ guardHolds p = true := (guardHolds_iff p).symm
  have power_iff : power ↔ powerHolds p k = true := by
    rw [powerHolds_iff, feederSum, funext feederTerm_eq]; rfl
  have hand : p.disp.eHand = eHandOf (decide4 p) := by
    have kept : (decide4 p).disp.hand = p.disp.hand := by
      rw [decided]; split
      · exact startRequest_hand out
      · rfl
    rw [eHandOf_congr kept (by simp) (by simp)]
    exact formed
  obtain ⟨chans, arb, port⟩ := dispatchAct_quiet (s := p) coordinating hand
  constructor
  case left =>
    intro may guarded powered
    have taken : decide4 p = _ := (decided.trans (if_pos (permitted_iff.1 may))).trans
      (startRequest_taken ((oneStart_iff p).2 may.2.2.1) (guard_iff.1 guarded) (power_iff.1 powered) idle)
    have moved : ∀ j, (decide4 p).chan j = if j = k then parked (s.chan k) .notice else s.chan j := fun j => by
      have noticed : (noticed p k).chan j = if j = k then parked (s.chan k) .notice else s.chan j := moveChan_chan p j k _
      rw [taken, ← noticed]; split <;> rfl
    have urgency : (dispatchAct p).alloc.urgency = p.alloc.urgency := by rw [(dispatchAct_frame p).2.2.2.2.2.2]
    rw [dispatchAct_chan, moved, if_pos rfl, urgency, arb, port, taken]
    refine ⟨parked_off _ _, fun j other => by rw [dispatchAct_chan, moved, if_neg other], ?_, dispatchAct_rotation p,
      fun active => ?_, fun silent => ?_⟩
    · split <;> rfl
    · rw [if_pos (show p.port.state = .active from active)]; exact ⟨rfl, rfl, rfl⟩
    · rw [if_neg (show ¬ p.port.state = .active from silent)]
      exact ⟨rfl, rfl, by simp [startHoldOff, noticed, p, publishAllocation]⟩
  case right =>
    intro fails
    have stays : decide4 p = p := by
      rw [decided]; split
      case isTrue may =>
        exact startRequest_dropped fun h => fails ⟨permitted_iff.2 may, guard_iff.2 h.1, power_iff.2 h.2⟩
      case isFalse => rfl
    rw [chans, arb, port, stays]
    exact ⟨rfl, rfl, rfl⟩

end Sys2Proof.Machine
end

section
/-! PROOFS. The dry-run lockout at a scan completion (sections 6.6 and 6.7). -/
namespace Sys2Proof.Machine

/-! ## The orders of the lockout (R114, R117, R144) -/

/-- A channel that rests, or is IDLE after a rest of length 0, neither turns nor waits in NOTICE (R144). -/
theorem Rested.still {s t : State} {k : Chan} (h : Rested s t k) : t.turning k = false ∧ t.isIn k .notice = false := by
  obtain ⟨rests, -⟩ := h
  split at rests <;> simp [State.turning, State.inR, State.isIn, State.chanState, rests.1.state]

/-- Only the channel and its place in the hand-running set are looked at. -/
theorem Rested.congr {s s' t t' : State} {k : Chan} (h : Rested s t k) (config : s'.ctl.config = s.ctl.config)
    (chan : t'.chan k = t.chan k) (hand : quadGet t'.disp.hand k = quadGet t.disp.hand k) : Rested s' t' k := by
  rw [Rested, chan, hand, show s'.cfg = s.cfg by simp only [State.cfg, config]]
  exact h

/-- What the orders to other channels keep at a channel. -/
structure ChanKept (k : Chan) (s t : State) : Prop where
  config : t.ctl.config = s.ctl.config
  chan : t.chan k = s.chan k
  hand : quadGet t.disp.hand k = quadGet s.disp.hand k

theorem ChanKept.refl (k : Chan) (s : State) : ChanKept k s s := ⟨rfl, rfl, rfl⟩

theorem ChanKept.trans {k : Chan} {s t u : State} (h : ChanKept k s t) (g : ChanKept k t u) : ChanKept k s u :=
  ⟨g.config.trans h.config, g.chan.trans h.chan, g.hand.trans h.hand⟩

theorem moveChan_chanKept {j k : Chan} (other : k ≠ j) (s : State) (c : Channel) : ChanKept k s (moveChan s j c) :=
  ⟨by simp, by rw [moveChan_chan, if_neg other], by rw [moveChan_hand, quadGet_quadSet_other _ _ other]⟩

theorem dryRunOrder_chanKept {j k : Chan} (other : k ≠ j) (s : State) : ChanKept k s (dryRunOrder s j) := by
  unfold dryRunOrder enterResting
  split
  · split <;> exact moveChan_chanKept other _ _
  · exact .refl k s

theorem turning_congr {s t : State} {k : Chan} (chan : t.chan k = s.chan k) : t.turning k = s.turning k := by
  simp only [State.turning, State.inR, State.isIn, State.chanState, chan]

theorem restAll_chan (s : State) (k : Chan) :
    (s.turning k = true → Rested s (forChans dryRunOrder s) k) ∧
      (s.turning k = false → (forChans dryRunOrder s).chan k = s.chan k) := by
  obtain ⟨u, before, after⟩ := forChans_around (ChanKept.refl k) ChanKept.trans k
    (fun s _ other => dryRunOrder_chanKept other s) s
  obtain ⟨rests, stands, -⟩ := dryRunOrder_chan u k
  rw [← turning_congr before.chan]
  exact ⟨fun turns => (rests turns).congr before.config.symm after.chan after.hand,
    fun still => by rw [after.chan, stands still, before.chan]⟩

/-- The orders of a lockout that sets: every turning channel rests, and the own notice is withdrawn (R114, R128). -/
def lockedOut (s : State) : State := withdrawNotice (forChans dryRunOrder (s.setDisp { s.disp with lockout := true }))

/-- A withdrawal reaches a channel in NOTICE alone (R128, R146). -/
theorem withdrawNotice_chanKept {s : State} {k : Chan} (waits : s.isIn k .notice = false) :
    ChanKept k s (withdrawNotice s) := by
  have dropped : ChanKept k s (dropNotice s) := ⟨by simp, by simp [State.chan], by simp⟩
  unfold withdrawNotice
  split
  case h_2 => exact .refl k s
  case h_1 n _ =>
    unfold backToIdle
    split
    case isFalse => exact dropped
    case isTrue notice =>
      refine dropped.trans (moveChan_chanKept (fun same => ?_) _ _)
      subst same
      simp only [State.isIn, State.chanState, dropped.chan] at notice waits
      rw [waits] at notice
      cases notice

theorem isIn_congr {s t : State} {k : Chan} (chan : t.chan k = s.chan k) (x : ChanState) : t.isIn k x = s.isIn k x := by
  simp only [State.isIn, State.chanState, chan]

theorem lockedOut_turning {s : State} {k : Chan} (turns : s.turning k = true) : Rested s (lockedOut s) k := by
  have rests := (restAll_chan (s.setDisp { s.disp with lockout := true }) k).1 turns
  have kept := withdrawNotice_chanKept rests.still.2
  exact rests.congr rfl kept.chan kept.hand

theorem lockedOut_other {s : State} {k : Chan} (still : s.turning k = false) (waits : s.isIn k .notice = false) :
    (lockedOut s).chan k = s.chan k := by
  have stands := (restAll_chan (s.setDisp { s.disp with lockout := true }) k).2 still
  exact (withdrawNotice_chanKept ((isIn_congr stands _).trans waits)).chan.trans stands

theorem lockedOut_notice {s : State} {n : OwnNotice} (notice : s.arb.notice = some n) :
    (lockedOut s).arb.notice = none ∧ (lockedOut s).arb.holdOff = none ∧
      (s.isIn n.channel .notice = true → ((lockedOut s).chan n.channel).Off .idle) := by
  have arb : (forChans dryRunOrder (s.setDisp { s.disp with lockout := true })).arb = s.arb := by simp [forChans]
  obtain ⟨gone, -, holdOff⟩ := dropNotice_arb (forChans dryRunOrder (s.setDisp { s.disp with lockout := true }))
  rw [lockedOut, withdrawNotice_arb]
  refine ⟨gone, holdOff (.inl (by simp [arb, notice])), fun waits => ?_⟩
  have still : s.turning n.channel = false := by
    simp only [State.isIn, beq_iff_eq] at waits
    simp [State.turning, State.inR, State.isIn, waits]
  have stands := (restAll_chan (s.setDisp { s.disp with lockout := true }) n.channel).2 still
  rw [withdrawNotice_chan _ n (by rw [arb, notice]), if_pos ⟨rfl, (isIn_congr stands _).trans waits⟩]
  exact parked_off _ _

theorem lockedOut_still (s : State) (k : Chan) : (lockedOut s).turning k = false := by
  cases turns : s.turning k
  · have stands := (restAll_chan (s.setDisp { s.disp with lockout := true }) k).2 turns
    have still : (forChans dryRunOrder (s.setDisp { s.disp with lockout := true })).turning k = false :=
      (turning_congr stands).trans turns
    cases after : (lockedOut s).turning k
    · rfl
    · rw [(withdrawNotice_faultsLatched _ k).turns after] at still
      cases still
  · exact (lockedOut_turning turns).still.1

/-! ## The lockout of a scan completion (R114, R115) -/

theorem judgeLockout_sets {s : State} {level : Int} (sump : s.acq.pub.sump.working = some level) (clear : s.disp.lockout = false)
    (low : level ≤ s.cfg.dryRun) : judgeLockout s = lockedOut s := by
  simp only [judgeLockout, sump, clear, low, if_true, Bool.false_eq_true, if_false]
  rfl

theorem judgeLockout_lockout {s : State} {level : Int} (sump : s.acq.pub.sump.working = some level) :
    (judgeLockout s).disp.lockout =
      if s.disp.lockout then decide (level < s.cfg.dryRun + 200) else decide (level ≤ s.cfg.dryRun) := by
  by_cases set : s.disp.lockout = true
  · by_cases high : s.cfg.dryRun + 200 ≤ level
    · simp [judgeLockout, sump, set, Config.lockoutBand, high]
    · simp [judgeLockout, sump, set, Config.lockoutBand, high]; omega
  · rw [Bool.not_eq_true] at set
    by_cases low : level ≤ s.cfg.dryRun
    · rw [judgeLockout_sets sump set low]
      simp [lockedOut, forChans, set, low]
    · simp [judgeLockout, sump, set, low]

/-! ## The current checks of one channel (R159, R160, R162) -/

/-- The state with the counts of a channel as a scan completion forms them (R159). -/
def counted (s : State) (k : Chan) : State := s.setSup { s.sup with watch := quadSet s.sup.watch k (watchCounts s k) }

/-- A count at N offers its latch (R162). -/
theorem superviseChan_eq {s : State} {k : Chan} (fitted : s.fitted k = true) :
    superviseChan s k =
      (faultOf (deglitchScans (s.pump k)) (watchCounts s k)).elim (counted s k) (offerLatch (counted s k) k) := by
  have checked : superviseChan s k = _ := if_pos fitted
  rw [checked]
  cases h : faultOf (deglitchScans (s.pump k)) (watchCounts s k) <;> simp only [h, Option.elim, State.setSup_pump] <;> rfl

theorem five_le_deglitchScans (p : PumpBlock) : 5 ≤ deglitchScans p := by
  unfold deglitchScans; split <;> omega

/-- The counts of a channel that does not turn are 0 (R160). -/
theorem watchCounts_still {s : State} {k : Chan} (still : s.turning k = false) :
    (watchCounts s k).overcurrent = 0 ∧ (watchCounts s k).startLimit = 0 ∧ (watchCounts s k).underload = 0 := by
  have out : s.isIn k .starting = false ∧ s.isIn k .running = false ∧ s.isIn k .stopping = false := by
    simpa [State.turning, State.inR, and_assoc] using still
  unfold watchCounts
  split <;> simp [out, advance]

/-- So they latch nothing. -/
theorem faultOf_still {s : State} {k : Chan} (still : s.turning k = false) :
    faultOf (deglitchScans (s.pump k)) (watchCounts s k) = none := by
  obtain ⟨oc, sl, ul⟩ := watchCounts_still still
  have positive : ¬ deglitchScans (s.pump k) ≤ 0 := by have := five_le_deglitchScans (s.pump k); omega
  simp [faultOf, oc, sl, ul, positive]

theorem superviseChan_still {s : State} {k : Chan} (still : s.turning k = false) : ∃ x, superviseChan s k = s.setSup x := by
  by_cases fitted : s.fitted k = true
  · rw [superviseChan_eq fitted, faultOf_still still]
    exact ⟨_, rfl⟩
  · exact ⟨s.sup, if_neg fitted⟩

theorem superviseAll_still {s : State} (still : ∀ k, s.turning k = false) : ∃ x, forChans superviseChan s = s.setSup x := by
  refine forChans_keeps (P := fun t => ∃ x, t = s.setSup x) ?_ s ⟨s.sup, rfl⟩
  rintro _ k ⟨x, rfl⟩
  obtain ⟨y, supervised⟩ := superviseChan_still (s := s.setSup x) (still k)
  exact ⟨y, supervised⟩

/-- The working sump level is always published under a configuration (R12). -/
theorem publish_sump {s : State} {c : StationConfig} (config : s.ctl.config = some c) :
    ∃ level, (publish s).acq.pub.sump.working = some level := by
  rw [publish_with s c config]
  exact ⟨_, rfl⟩

theorem scanFormed_dispatch (s : State) :
    (scanFormed s).acq = (publish s).acq ∧ (scanFormed s).arb = s.arb ∧ (scanFormed s).disp.lockout = s.disp.lockout ∧
      (scanFormed s).disp.nt = s.disp.nt := by
  have table : ∀ u : State, (formTable u).disp.lockout = u.disp.lockout ∧ (formTable u).disp.nt = u.disp.nt ∧
      (formTable u).acq = u.acq ∧ (formTable u).arb = u.arb := fun u => by
    unfold formTable; split <;> exact ⟨rfl, rfl, rfl, rfl⟩
  unfold scanFormed
  split <;> simp [judgeHand, table]

/-- Settles O18: a lockout that sets leaves nothing turning (`lockedOut_still`), so the checks after it latch nothing. -/
theorem dryRunLockoutSetsHoldsAndClears : Obligations.DryRunLockoutSetsHoldsAndClears := by
  intro c s scan config
  refine ⟨_, scanCompletion_with s c scan config, ?_⟩
  obtain ⟨level, sump⟩ := publish_sump config
  obtain ⟨acq, arb, lockout, nt⟩ := scanFormed_dispatch s
  obtain ⟨ctl, -, -, -, chans⟩ := scanFormed_frame s
  have published : (scanFormed s).acq.pub.sump.working = some level := by rw [acq, sump]
  have dryRun : (scanFormed s).cfg.dryRun = c.dryRun := by simp [State.cfg, ctl, config]
  have after : (settle s (scanCauses s) (followRiver (scanJudged s))).disp.lockout =
      if s.disp.lockout then decide (level < c.dryRun + 200) else decide (level ≤ c.dryRun) := by
    rw [(settle_disp_kept _ _ _).2.2.2.1, ← dryRun, ← lockout, ← judgeLockout_lockout published]
    simp [scanJudged_eq, forChans]
  refine ⟨level, by simp [(scanJudged_frame s).2.1, sump], fun clear low => ?sets, ?_, ?_, ?_⟩
  case sets =>
    obtain ⟨x, judged⟩ : ∃ x, scanJudged s = (lockedOut (scanFormed s)).setSup x := by
      rw [scanJudged_eq, judgeLockout_sets published (lockout.trans clear) (dryRun ▸ low)]
      exact superviseAll_still (lockedOut_still _)
    have before : ∀ k, (scanFormed s).chan k = s.chan k := fun k => by simp only [State.chan, chans]
    rw [judged]
    set t := settle s (scanCauses s) (followRiver ((lockedOut (scanFormed s)).setSup x)) with ht
    have chan : ∀ k, t.chan k = (lockedOut (scanFormed s)).chan k := fun k => by simp [ht, State.chan]
    have hand : t.disp.hand = (lockedOut (scanFormed s)).disp.hand := by simp [ht]
    have still : ∀ k, t.turning k = false := fun k => (turning_congr (chan k)).trans (lockedOut_still _ k)
    have formed : FiguresFormed t := settle_formed _ _ _
    have inR : ∀ k, t.inR k = false := fun k => (Bool.or_eq_false_iff.1 (still k)).1
    refine ⟨?_, fun k turns => ?_, still, ?_, ?_, ?_, fun n notice => ?_, fun k out waits => ?_⟩
    · rw [← judged] at ht
      rw [ht, after, clear]
      simpa using low
    · exact (lockedOut_turning ((turning_congr (before k)).trans turns)).congr (by rw [ctl]) (chan k) (by rw [hand])
    · rw [formed.crun]; simp [inR, sumChans]
    · rw [formed.auto]; simp [still, sumChans]
    · have idle : ∀ k, (followRiver ((lockedOut (scanFormed s)).setSup x)).isIn k .running = false := fun k =>
        (isIn_congr (s := t) (by rw [chan]; simp [State.chan]) _).trans (Bool.or_eq_false_iff.1 (inR k)).2
      rw [ht, settle_nt_idle _ _ _ idle]
      simp [lockedOut, forChans, nt]
    · obtain ⟨gone, holdOff, parks⟩ := lockedOut_notice (s := scanFormed s) (arb ▸ notice)
      rw [chan, ht, settle_arb _ _ _ (by simpa using gone)]
      exact ⟨by simpa using gone, by simpa using holdOff, fun waits => parks ((isIn_congr (before _) _).trans waits)⟩
    · rw [chan, lockedOut_other ((turning_congr (before k)).trans out) ((isIn_congr (before k) _).trans waits), before]
  all_goals
    intro set bound
    rw [after, set]
    simp
    omega

end Sys2Proof.Machine
end

section
/-! PROOFS. The current checks of one channel at a scan completion (sections 9.2 and 9.3). -/
namespace Sys2Proof.Machine

/-! ## Events that meet a latch (R148, R150, R151, R165) -/

/-- Whether an event that waits next, other than an allocation completion, would act on a channel or its latches. -/
def Meeting (s : State) (k : Chan) : Instr → Prop
  | .startWindowExpiry j => j = k ∧ s.isIn k .starting = true ∧ (s.chan k).window.isSome = true
  | .slewTimerExpiry => s.disp.slewTimer.isSome = true ∧ s.isIn k .stopping = true ∧
    (s.chan k).reference ≤ (s.pump k).nmin + s.cfg.slewStep ∧ (s.pump k).nmin ≤ (s.chan k).reference + s.cfg.slewStep
  | .scanTimerExpiry contacts => s.acq.scanTimer.isSome = true ∧ (s.chan k).Agrees (readContacts (quadGet contacts k)) ∧
    modeOf (readContacts (quadGet contacts k)) ≠ .auto ∧ (s.chan k).mode ≠ some (modeOf (readContacts (quadGet contacts k)))
  | .clearFaults => s.portOpen = true ∧ s.maint.held = none ∧ s.maint.response = none
  | .characterReceived c low => c = 0x0D#8 ∧ low = false ∧ s.portOpen = true ∧ s.maint.held = none ∧
    s.maint.response = none ∧ readLine s.maint.badLine s.maint.buffer = .request .clearFaults
  | .responseEnd => s.maint.response.isSome = true ∧ s.maint.held = some (.request .clearFaults)
  | .faultResetSample a => a = true ∧ s.ctl.resetHeld = false ∧ s.sup.level = some false ∧
    s.sup.samples.take 4 = [true, true, true, true]
  | _ => False

/-- One step of slew reaches the target exactly from within one step of it (R112). -/
theorem slewToward_eq_iff (step target n : Nat) :
    slewToward step target n = target ↔ n ≤ target + step ∧ target ≤ n + step := by
  unfold slewToward; split <;> omega

/-- A sample takes a fitted channel to OFF or HAND when it agrees with the one before and the mode is a new one (R138, R139). -/
theorem sampleLeavesAuto_iff {s : State} {k : Chan} (fitted : s.fitted k = true) (contacts : Quad Contacts) :
    (modeChanges s contacts k && (takeSample false (s.chan k) (readContacts (quadGet contacts k))).mode != some .auto) = true ↔
      (s.chan k).Agrees (readContacts (quadGet contacts k)) ∧ modeOf (readContacts (quadGet contacts k)) ≠ .auto ∧
        (s.chan k).mode ≠ some (modeOf (readContacts (quadGet contacts k))) := by
  by_cases agrees : (s.chan k).Agrees (readContacts (quadGet contacts k))
  · simp only [modeChanges, fitted, takeSample_agreed _ agrees, agrees, Bool.true_and, Bool.and_eq_true, bne_iff_ne, ne_eq,
      Option.some.injEq, Bool.false_eq_true, if_false, true_and]
    exact ⟨fun ⟨new, leaves⟩ => ⟨leaves, fun same => new same.symm⟩,
      fun ⟨leaves, new⟩ => ⟨fun same => new same.symm, leaves⟩⟩
  · simp [modeChanges, takeSample_stored _ agrees, agrees]

/-- A character executes a CLEAR FAULTS when it is the CR of its line on an idle port, with its stop bit right (R184). -/
theorem executesClear_character (s : State) (k : Chan) (c : Byte) (low : Bool) :
    executesClear s (.characterReceived c low) = true ↔ Meeting s k (.characterReceived c low) := by
  cases low
  · simp only [executesClear, Meeting, charCR, Bool.or_false, Bool.and_eq_true, beq_iff_eq, Option.isNone_iff_eq_none]
    exact ⟨fun ⟨⟨⟨⟨opened, held⟩, response⟩, cr⟩, line⟩ => ⟨cr, trivial, opened, held, response, line⟩,
      fun ⟨cr, _, opened, held, response, line⟩ => ⟨⟨⟨⟨opened, held⟩, response⟩, cr⟩, line⟩⟩
  · simp [executesClear, Meeting, readLine]

theorem meetsLatch_iff {s : State} {k : Chan} (fitted : s.fitted k = true) {c : Instr} (other : c ≠ .allocationCompletion) :
    meetsLatch s k c = true ↔ Meeting s k c := by
  cases c
  case allocationCompletion => exact absurd rfl other
  case slewTimerExpiry => simp [meetsLatch, slewEndsStop, Meeting, slewToward_eq_iff, and_assoc]
  case scanTimerExpiry contacts =>
    rw [meetsLatch, Bool.and_assoc, Bool.and_eq_true, sampleLeavesAuto_iff fitted]; rfl
  case startWindowExpiry j => simp [meetsLatch, Meeting, and_assoc]
  case faultResetSample a => 
    rw [meetsLatch, Bool.and_eq_true, risingEdge_iff, Bool.not_eq_true']
    exact and_left_comm
  case characterReceived c low => exact executesClear_character s k c low
  case clearFaults => simp [meetsLatch, executesClear, Meeting, and_assoc]
  case responseEnd => simp [meetsLatch, executesClear, Meeting]
  all_goals exact iff_of_false Bool.false_ne_true id

/-- Whether the event that waits next would act on a channel or its latches. -/
def Awaited (s : State) (k : Chan) : Prop :=
  match s.pending with
  | c :: _ => Meeting s k c
  | [] => False

/-- With no allocation completion next, a latch waits exactly for an event that meets it and is taken first (log entry 33). -/
theorem latchWaits_iff {s : State} {k : Chan} (fitted : s.fitted k = true)
    (other : ∀ rest, s.pending ≠ .allocationCompletion :: rest) :
    s.latchWaits k = true ↔ Awaited s k ∧ Config.latchWaits (chanNum k) ((s.current k).getD 0) = true := by
  unfold State.latchWaits Awaited
  cases pending : s.pending with
  | nil => simp
  | cons c rest =>
    have notCompletion : c ≠ .allocationCompletion := fun same => other rest (by rw [pending, same])
    simp only [Bool.and_eq_true, meetsLatch_iff fitted notCompletion]

/-- A latch waits for an allocation completion while one is computed that would stop the channel (R117). -/
theorem latchWaits_completion {s : State} {k : Chan} {rest : List Instr} (next : s.pending = .allocationCompletion :: rest)
    (waits : s.latchWaits k = true) :
    s.alloc.snapshot.isSome = true ∧ s.reporting = true ∧ s.inR k = true ∧
      Config.latchWaits (chanNum k) ((s.current k).getD 0) = true := by
  simp only [State.latchWaits, next, meetsLatch, completionStops, Bool.and_eq_true] at waits
  obtain ⟨stops, free⟩ := waits
  split at stops
  case h_1 computing =>
    simp only [Bool.and_eq_true] at stops
    exact ⟨by simp [computing], stops.1.1, stops.1.2, free⟩
  case h_2 => cases stops

/-! ## What the checks of other channels keep -/

/-- What the parts of a scan completion keep for the checks of a channel. -/
structure CheckKept (k : Chan) (s t : State) : Prop where
  ctl : t.ctl = s.ctl
  scanTimer : t.acq.scanTimer = s.acq.scanTimer
  sched : t.sched = s.sched
  alloc : t.alloc = s.alloc
  maint : t.maint = s.maint
  pending : t.pending = s.pending
  slewTimer : t.disp.slewTimer = s.disp.slewTimer
  nt : t.disp.nt = s.disp.nt
  chan : t.chan k = s.chan k
  watch : quadGet t.sup.watch k = quadGet s.sup.watch k
  offered : quadGet t.sup.offered k = quadGet s.sup.offered k
  input : t.sup.samples = s.sup.samples ∧ t.sup.level = s.sup.level

theorem CheckKept.refl (k : Chan) (s : State) : CheckKept k s s :=
  ⟨rfl, rfl, rfl, rfl, rfl, rfl, rfl, rfl, rfl, rfl, rfl, rfl, rfl⟩

theorem CheckKept.trans {k : Chan} {s t u : State} (h : CheckKept k s t) (g : CheckKept k t u) : CheckKept k s u :=
  ⟨g.ctl.trans h.ctl, g.scanTimer.trans h.scanTimer, g.sched.trans h.sched, g.alloc.trans h.alloc, g.maint.trans h.maint,
    g.pending.trans h.pending, g.slewTimer.trans h.slewTimer, g.nt.trans h.nt, g.chan.trans h.chan, g.watch.trans h.watch,
    g.offered.trans h.offered, g.input.1.trans h.input.1, g.input.2.trans h.input.2⟩

theorem CheckKept.awaited {k : Chan} {s t : State} (h : CheckKept k s t) : Awaited t k ↔ Awaited s k := by
  obtain ⟨ctl, scanTimer, sched, alloc, maint, pending, slewTimer, nt, chan, watch, offered, samples, level⟩ := h
  unfold Awaited
  rw [pending]
  split
  case h_2 => rfl
  case h_1 c _ _ =>
    cases c <;>
      simp only [Meeting, State.isIn, State.chanState, State.pump, State.cfg, State.portOpen, ctl, scanTimer, maint, slewTimer,
        chan, samples, level]

/-- A change of the checks that leaves a channel's own. -/
theorem setSup_checkKept {k : Chan} (s : State) {x : Supervision} (watch : quadGet x.watch k = quadGet s.sup.watch k)
    (offered : quadGet x.offered k = quadGet s.sup.offered k) (input : x.samples = s.sup.samples ∧ x.level = s.sup.level) :
    CheckKept k s (s.setSup x) :=
  ⟨rfl, rfl, rfl, rfl, rfl, rfl, rfl, rfl, rfl, watch, offered, input⟩

theorem moveChan_checkKept {j k : Chan} (other : k ≠ j) (s : State) (c : Channel) : CheckKept k s (moveChan s j c) :=
  ⟨by simp, by simp, by simp, by simp, by simp, by simp, by simp, by simp, by rw [moveChan_chan, if_neg other], by simp, by simp,
    by simp⟩

theorem counted_awaited (s : State) (k : Chan) : Awaited (counted s k) k ↔ Awaited s k := by
  unfold Awaited
  rw [show (counted s k).pending = s.pending from rfl]
  split
  case h_1 c _ _ => cases c <;> exact Iff.rfl
  case h_2 => exact Iff.rfl

theorem latchFault_turning {s : State} {k : Chan} (turns : s.turning k = true) (kind : FaultKind) :
    latchFault s k kind = moveChan (s.setSup { s.sup with
      watch := quadSet s.sup.watch k { Watch.reset with latch := some kind } }) k (parked (s.chan k) .fault) :=
  if_pos turns

theorem latchFault_still {s : State} {k : Chan} (still : s.turning k = false) (kind : FaultKind) :
    latchFault s k kind = s.setSup { s.sup with
      watch := quadSet s.sup.watch k { Watch.reset with latch := (quadGet s.sup.watch k).latch } } :=
  if_neg (by simp [still])

theorem latchFault_checkKept {j k : Chan} (other : k ≠ j) (s : State) (kind : FaultKind) :
    CheckKept k s (latchFault s j kind) := by
  cases turns : s.turning j
  · rw [latchFault_still turns]
    exact setSup_checkKept s (quadGet_quadSet_other _ _ other) rfl ⟨rfl, rfl⟩
  · rw [latchFault_turning turns]
    refine CheckKept.trans ?_ (moveChan_checkKept other _ _)
    exact setSup_checkKept s (quadGet_quadSet_other _ _ other) rfl ⟨rfl, rfl⟩

theorem superviseChan_checkKept {j k : Chan} (other : k ≠ j) (s : State) : CheckKept k s (superviseChan s j) := by
  by_cases fitted : s.fitted j = true
  · have checked : CheckKept k s (counted s j) := setSup_checkKept s (quadGet_quadSet_other _ _ other) rfl ⟨rfl, rfl⟩
    rw [superviseChan_eq fitted]
    cases faultOf (deglitchScans (s.pump j)) (watchCounts s j) with
    | none => exact checked
    | some kind =>
      refine checked.trans ?_
      rw [Option.elim_some, offerLatch]
      split
      · exact setSup_checkKept _ rfl (quadGet_quadSet_other _ _ other) ⟨rfl, rfl⟩
      · exact latchFault_checkKept other _ kind
  · rw [superviseChan, if_neg fitted]
    exact .refl k s

theorem superviseChan_acq (s : State) (k : Chan) : (superviseChan s k).acq = s.acq := by simp

/-- The publication and a lockout that does not set reach no channel (R1, R114). -/
theorem scanFormed_checkKept (k : Chan) (s : State) : CheckKept k s (scanFormed s) := by
  have table : ∀ u : State, CheckKept k u (formTable u) := fun u => by
    unfold formTable; split
    · exact .refl k u
    · exact ⟨rfl, rfl, rfl, rfl, rfl, rfl, rfl, rfl, rfl, rfl, rfl, rfl, rfl⟩
  have hand : ∀ u : State, CheckKept k u (judgeHand u) := fun u =>
    ⟨rfl, rfl, rfl, rfl, rfl, rfl, rfl, rfl, rfl, rfl, rfl, rfl, rfl⟩
  have published : CheckKept k s (publish s) := ⟨rfl, rfl, rfl, rfl, rfl, rfl, rfl, rfl, rfl, rfl, rfl, rfl, rfl⟩
  unfold scanFormed
  split
  · exact (published.trans (table _)).trans (hand _)
  · exact published.trans (hand _)

theorem judgeLockout_checkKept (k : Chan) {s : State} {level : Int} (sump : s.acq.pub.sump.working = some level)
    (sets : s.disp.lockout = true ∨ s.cfg.dryRun < level) : CheckKept k s (judgeLockout s) := by
  simp only [judgeLockout, sump]
  split
  · split
    · exact ⟨rfl, rfl, rfl, rfl, rfl, rfl, rfl, rfl, rfl, rfl, rfl, rfl, rfl⟩
    · exact .refl k s
  case isFalse clear =>
    rw [if_neg (by rcases sets with set | above; exact absurd set clear; omega)]
    exact .refl k s

/-! ## The latch of one channel (R151, R162) -/

/-- A latch that does not wait takes a turning channel to FAULT. -/
theorem offerLatch_takes {s : State} {k : Chan} {kind : FaultKind} (waits : s.latchWaits k = false) (turns : s.turning k = true) :
    quadGet (offerLatch s k kind).sup.watch k = ⟨0, 0, 0, some kind⟩ ∧ ((offerLatch s k kind).chan k).Off .fault ∧
      ((offerLatch s k kind).chan k).rest = none ∧
      quadGet (offerLatch s k kind).sup.offered k = quadGet s.sup.offered k := by
  have order : offerLatch s k kind = moveChan (s.setSup { s.sup with
      watch := quadSet s.sup.watch k { Watch.reset with latch := some kind } }) k (parked (s.chan k) .fault) := by
    rw [offerLatch, if_neg (by simp [waits]), latchFault_turning turns]
  rw [order, moveChan_chan, if_pos rfl]
  refine ⟨?_, parked_off _ _, rfl, by simp⟩
  simp only [moveChan_frame, State.setSup_sup, quadGet_quadSet_same]
  rfl

/-- A latch that waits leaves counts and channel as they are (R162; log entry 33). -/
theorem offerLatch_offers {s : State} {k : Chan} {kind : FaultKind} (waits : s.latchWaits k = true) :
    quadGet (offerLatch s k kind).sup.watch k = quadGet s.sup.watch k ∧ (offerLatch s k kind).chan k = s.chan k ∧
      quadGet (offerLatch s k kind).sup.offered k = some kind := by
  rw [offerLatch, if_pos waits]
  exact ⟨rfl, rfl, quadGet_quadSet_same _ _ _⟩

/-! ## The checks of a scan completion (R159 to R163) -/

/-- The state in which the current checks of a channel are made, between the other channels' checks. -/
theorem checkedBetween {s : State} {k : Chan} {c : StationConfig} (config : s.ctl.config = some c) {level : Int}
    (sump : (publish s).acq.pub.sump.working = some level) (sets : s.disp.lockout = true ∨ c.dryRun < level) :
    ∃ u, CheckKept k s u ∧ u.acq = (publish s).acq ∧ CheckKept k (superviseChan u k) (scanJudged s) := by
  obtain ⟨acq, -, lockout, -⟩ := scanFormed_dispatch s
  have formed := scanFormed_checkKept k s
  have cfg : (scanFormed s).cfg = c := by simp [State.cfg, formed.ctl, config]
  have judged : CheckKept k (scanFormed s) (judgeLockout (scanFormed s)) :=
    judgeLockout_checkKept k (level := level) (by rw [acq, sump]) (by rwa [lockout, cfg])
  obtain ⟨u, ⟨before, same⟩, ⟨after, -⟩⟩ := forChans_around (R := fun s t => CheckKept k s t ∧ t.acq = s.acq)
    (fun _ => ⟨.refl k _, rfl⟩) (fun h g => ⟨h.1.trans g.1, g.2.trans h.2⟩) k
    (fun s j other => ⟨superviseChan_checkKept other s, superviseChan_acq s j⟩) (judgeLockout (scanFormed s))
  exact ⟨u, (formed.trans judged).trans before, by rw [same]; simp [acq], after⟩

/-- What a scan completion with a latch for a channel leaves: the latch waits, or it is taken and n_t formed (R111, R162, R163). -/
theorem scanCompletion_latched {s u : State} {k : Chan} {kind : FaultKind} (before : CheckKept k s u)
    (after : CheckKept k (superviseChan u k) (scanJudged s)) (fitted : u.fitted k = true)
    (latches : faultOf (deglitchScans (u.pump k)) (watchCounts u k) = some kind) (m : Nat) :
    ((counted u k).latchWaits k = false →
      quadGet (settle s m (followRiver (scanJudged s))).sup.watch k = ⟨0, 0, 0, some kind⟩ ∧
        ((settle s m (followRiver (scanJudged s))).chan k).Off .fault ∧
        ((settle s m (followRiver (scanJudged s))).chan k).rest = none ∧
        quadGet (settle s m (followRiver (scanJudged s))).sup.offered k = quadGet s.sup.offered k ∧
        SpeedTargetFormed s (settle s m (followRiver (scanJudged s)))) ∧
    ((counted u k).latchWaits k = true →
      quadGet (settle s m (followRiver (scanJudged s))).sup.watch k = watchCounts u k ∧
        (settle s m (followRiver (scanJudged s))).chan k = s.chan k ∧
        quadGet (settle s m (followRiver (scanJudged s))).sup.offered k = some kind) := by
  have checked : superviseChan u k = offerLatch (counted u k) k kind := by
    rw [superviseChan_eq fitted, latches, Option.elim_some]
  have turns : u.turning k = true := by
    by_contra still
    rw [faultOf_still (by simpa using still)] at latches
    cases latches
  have sup : (settle s m (followRiver (scanJudged s))).sup = (scanJudged s).sup := by simp
  have chan : (settle s m (followRiver (scanJudged s))).chan k = (scanJudged s).chan k := by simp [State.chan]
  rw [sup, chan, after.watch, after.chan, after.offered, checked]
  constructor
  · intro waits
    obtain ⟨watch, off, rest, offered⟩ := offerLatch_takes (kind := kind) waits (s := counted u k) turns
    refine ⟨watch, off, rest, offered.trans before.offered, ?_⟩
    have fault : (followRiver (scanJudged s)).isIn k .fault = true := by
      have : (scanJudged s).isIn k .fault = true := by
        rw [State.isIn, State.chanState, after.chan, checked, off.state]; rfl
      simpa [State.isIn, State.chanState, State.chan] using this
    have notBefore : s.isIn k .fault = false := not_fault_of_turning ((turning_congr before.chan).symm.trans turns)
    refine (settle_speedTarget s m _ (speedTargetDue_of_fault fault notBefore)).of_nt ?_
    obtain ⟨-, -, -, nt⟩ := scanFormed_dispatch s
    simp [scanJudged_eq, forChans, nt]
  · intro waits
    obtain ⟨watch, stands, offered⟩ := offerLatch_offers (kind := kind) waits
    exact ⟨watch.trans (quadGet_quadSet_same _ _ _), stands.trans before.chan, offered⟩

/-- Which fault the counts latch (R162). -/
theorem faultOf_overcurrent {n : Nat} {w : Watch} (reached : n ≤ w.overcurrent ∨ n ≤ w.startLimit) :
    faultOf n w = some .overcurrent := by
  simp [faultOf, reached]

theorem faultOf_underload {n : Nat} {w : Watch} (oc : w.overcurrent < n) (sl : w.startLimit < n) (reached : n ≤ w.underload) :
    faultOf n w = some .underload := by
  simp [faultOf, Nat.not_le.2 oc, Nat.not_le.2 sl, reached]

theorem faultOf_below {n : Nat} {w : Watch} (oc : w.overcurrent < n) (sl : w.startLimit < n) (ul : w.underload < n) :
    faultOf n w = none := by
  simp [faultOf, Nat.not_le.2 oc, Nat.not_le.2 sl, Nat.not_le.2 ul]

/-- What the waiting of a latch depends on stands between the checks (log entry 33). -/
theorem CheckKept.latchWaits_iff {s u : State} {k : Chan} (before : CheckKept k s u) (fitted : u.fitted k = true)
    (other : ∀ rest, s.pending ≠ .allocationCompletion :: rest) :
    (counted u k).latchWaits k = true ↔ Awaited s k ∧ Config.latchWaits (chanNum k) ((u.current k).getD 0) = true := by
  have pending : (counted u k).pending = s.pending := before.pending
  rw [← before.awaited, ← counted_awaited]
  exact Machine.latchWaits_iff (s := counted u k) fitted (by rwa [pending])

theorem CheckKept.latchWaits_completion {s u : State} {k : Chan} (before : CheckKept k s u) {rest : List Instr}
    (next : s.pending = .allocationCompletion :: rest) (waits : (counted u k).latchWaits k = true) :
    s.alloc.snapshot.isSome = true ∧ s.reporting = true ∧ s.inR k = true ∧
      Config.latchWaits (chanNum k) ((u.current k).getD 0) = true := by
  obtain ⟨computing, reporting, inR, free⟩ := Machine.latchWaits_completion (s := counted u k) (before.pending.trans next) waits
  refine ⟨before.alloc ▸ computing, ?_, ?_, free⟩
  · rw [State.reporting, ← before.sched]
    exact reporting
  · rw [State.inR, ← isIn_congr before.chan, ← isIn_congr before.chan]
    exact inR

/-- What a scan completion without a latch for a channel leaves: the counts as formed, the channel as it was (R159). -/
theorem scanCompletion_counted {s u : State} {k : Chan} (before : CheckKept k s u)
    (after : CheckKept k (superviseChan u k) (scanJudged s)) (fitted : u.fitted k = true)
    (below : faultOf (deglitchScans (u.pump k)) (watchCounts u k) = none) (m : Nat) :
    quadGet (settle s m (followRiver (scanJudged s))).sup.watch k = watchCounts u k ∧
      (settle s m (followRiver (scanJudged s))).chan k = s.chan k ∧
      quadGet (settle s m (followRiver (scanJudged s))).sup.offered k = quadGet s.sup.offered k := by
  have checked : superviseChan u k = counted u k := by rw [superviseChan_eq fitted, below, Option.elim_none]
  have sup : (settle s m (followRiver (scanJudged s))).sup = (scanJudged s).sup := by simp
  have chan : (settle s m (followRiver (scanJudged s))).chan k = (scanJudged s).chan k := by simp [State.chan]
  rw [sup, chan, after.watch, after.chan, after.offered, checked]
  exact ⟨quadGet_quadSet_same _ _ _, before.chan, before.offered⟩

/-- The counts as O19 states them (R159, R160). -/
theorem watchCounts_eq (s : State) (k : Chan) :
    watchCounts s k =
      { latch := (quadGet s.sup.watch k).latch
        overcurrent := match s.current k with
          | some i => advance (deglitchScans (s.pump k)) ((s.isIn k .running || s.isIn k .stopping) && (s.pump k).ioc < i)
            (quadGet s.sup.watch k).overcurrent
          | none => 0
        startLimit := match s.current k with
          | some i => advance (deglitchScans (s.pump k)) (s.isIn k .starting && (s.pump k).istart < i) (quadGet s.sup.watch k).startLimit
          | none => 0
        underload := match s.current k with
          | some i => advance (deglitchScans (s.pump k)) (s.isIn k .running && i < (s.pump k).iul) (quadGet s.sup.watch k).underload
          | none => 0 } := by
  unfold watchCounts
  cases s.current k <;> rfl

end Sys2Proof.Machine
end

section
/-! SUPPORT. The operations of an event do not read the current checks: they pass through a change of them (R151, R162). -/
namespace Sys2Proof.Machine

section
variable (s : State) (x : Supervision) (k : Chan)

theorem setSup_ite {c : Prop} {_ : Decidable c} (t u : State) :
    (if c then t else u).setSup x = if c then t.setSup x else u.setSup x :=
  apply_ite (State.setSup · x) c t u

/-- What passes for each channel passes for all four. -/
theorem forChans_setSup {f : State → Chan → State} (h : ∀ s k, f (s.setSup x) k = (f s k).setSup x) :
    forChans f (s.setSup x) = (forChans f s).setSup x := by
  simp only [forChans, h]

/-! ## Channel moves and orders (chapter 8) -/

theorem moveChan_setSup (c : Channel) : moveChan (s.setSup x) k c = (moveChan s k c).setSup x := rfl

theorem enterResting_setSup : enterResting (s.setSup x) k = (enterResting s k).setSup x := by
  unfold enterResting
  rw [setSup_ite]; rfl

theorem stopOrder_setSup : stopOrder (s.setSup x) k = (stopOrder s k).setSup x := by
  unfold stopOrder
  rw [setSup_ite]; rfl

theorem backToIdle_setSup : backToIdle (s.setSup x) k = (backToIdle s k).setSup x := by
  unfold backToIdle
  rw [setSup_ite]; rfl

theorem placeByMode_setSup : placeByMode (s.setSup x) k = (placeByMode s k).setSup x := by
  simp only [placeByMode, State.setSup_chan, moveChan_setSup, enterResting_setSup]
  rcases (s.chan k).mode with _ | _ | _ | _ <;> rfl

theorem leaveFault_setSup : leaveFault (s.setSup x) k = (leaveFault s k).setSup x := by
  unfold leaveFault
  rw [placeByMode_setSup]
  rw [setSup_ite]; rfl

theorem slewChan_setSup : slewChan (s.setSup x) k = (slewChan s k).setSup x := by
  simp only [slewChan, State.setSup_chan, State.setSup_disp, State.setSup_cfg, State.setSup_pump, enterResting_setSup]
  split
  · cases s.disp.nt <;> rfl
  · rfl
  · rw [setSup_ite]; rfl
  · rfl

/-! ## The own notice -/

theorem withdrawStart_setSup (n : OwnNotice) : withdrawStart (s.setSup x) n = (withdrawStart s n).setSup x := by
  unfold withdrawStart
  cases n.phase <;> rfl

theorem dropNotice_setSup : dropNotice (s.setSup x) = (dropNotice s).setSup x := by
  unfold dropNotice
  rw [State.setSup_arb]
  cases s.arb.notice with
  | none => rfl
  | some n => simp only [withdrawStart_setSup]; rfl

theorem withdrawNotice_setSup : withdrawNotice (s.setSup x) = (withdrawNotice s).setSup x := by
  simp only [withdrawNotice, State.setSup_arb, dropNotice_setSup, backToIdle_setSup]
  cases s.arb.notice <;> rfl

theorem startEnded_setSup (number : Nat) : startEnded (s.setSup x) number = (startEnded s number).setSup x := by
  simp only [startEnded, State.setSup_arb]
  cases s.arb.notice with
  | none => rfl
  | some n => dsimp only; rw [setSup_ite]; rfl

theorem leaveNotice_setSup : leaveNotice (s.setSup x) k = (leaveNotice s k).setSup x := by
  unfold leaveNotice
  rw [dropNotice_setSup]
  rw [setSup_ite]; rfl

/-- A channel without a state, and one in FAULT, takes no mode change. -/
theorem modeChange_none {s : State} {k : Chan} (h : s.chanState k = none ∨ s.chanState k = some .fault) :
    modeChange s k = s := by
  unfold modeChange
  rcases h with h | h <;> rw [h]

theorem modeChange_setSup : modeChange (s.setSup x) k = (modeChange s k).setSup x := by
  cases state : s.chanState k with
  | none => rw [modeChange_none (s := s) (.inl state), modeChange_none (s := s.setSup x) (.inl state)]
  | some y =>
    by_cases fault : y = .fault
    · subst fault
      rw [modeChange_none (s := s) (.inr state), modeChange_none (s := s.setSup x) (.inr state)]
    · rw [modeChange_eq s k state fault, modeChange_eq (s.setSup x) k state fault, leaveNotice_setSup, placeByMode_setSup]
      rw [setSup_ite]; rfl

/-! ## The end of an event -/

theorem formNt_setSup : formNt (s.setSup x) = (formNt s).setSup x := by
  unfold formNt
  rw [setSup_ite]; rfl

theorem composeStage_setSup : composeStage (s.setSup x) = (composeStage s).setSup x := by
  unfold composeStage offerStage
  rw [setSup_ite]; rfl

theorem promptCause_setSup : promptCause (s.setSup x) = (promptCause s).setSup x := by
  unfold promptCause
  rw [composeStage_setSup, setSup_ite, setSup_ite]
  rfl

theorem promptCauses_setSup (n : Nat) : promptCauses n (s.setSup x) = (promptCauses n s).setSup x := by
  induction n generalizing s with
  | zero => rfl
  | succ n ih => rw [promptCauses, promptCause_setSup, ih, promptCauses]

theorem quitEnded_setSup : quitEnded (s.setSup x) = (quitEnded s).setSup x := by
  unfold quitEnded
  rw [setSup_ite]; rfl

/-- The port with a QUIT queued, which removes a START (R27, R46). -/
def quitQueued (s : State) : State :=
  (s.setSched { s.sched with quitOffered := true }).setPort
    { s.port with queue := { s.port.queue with start := none, quit := some ⟨1, (s.sched.counter + 255) % 256⟩ } }

theorem offerQuit_setSup : offerQuit (s.setSup x) = (offerQuit s).setSup x := by
  by_cases active : s.port.state = .active
  · have queued : ∀ u : State, u.port.state = .active → offerQuit u =
        match u.port.queue.start with
        | some p => startEnded (quitQueued u) p.number
        | none => quitQueued u := fun u h => if_pos h
    rw [queued s active, queued (s.setSup x) active, State.setSup_port]
    cases s.port.queue.start with
    | none => rfl
    | some p => exact startEnded_setSup (quitQueued s) x p.number
  · have refused : ∀ u : State, ¬ u.port.state = .active → offerQuit u =
        quitEnded (u.setSched { u.sched with quitOffered := true }) := fun u h => if_neg h
    rw [refused s active, refused (s.setSup x) active]
    exact quitEnded_setSup (s.setSched { s.sched with quitOffered := true }) x

theorem quitTest_setSup : quitTest (s.setSup x) = (quitTest s).setSup x := by
  unfold quitTest
  rw [offerQuit_setSup]
  rw [setSup_ite]; rfl

/-- The figures at the end of an event, with n_t where it is due (R103, R111). -/
def figured (s0 s : State) : State := if speedTargetDue s0 (reform s) then formNt (reform s) else reform s

theorem figured_setSup (s0 : State) : figured s0 (s.setSup x) = (figured s0 s).setSup x := by
  have formed : reform (s.setSup x) = (reform s).setSup x := rfl
  unfold figured
  rw [formed, formNt_setSup, setSup_ite]
  rfl

/-- The end of an event in its parts: the figures, the prompt causes and the QUIT test (R55, R103, R111; log entry 5). -/
theorem settle_eq (s0 : State) (n : Nat) : settle s0 n s =
    let u := promptCauses (n + if s0.disp.eHand != (figured s0 s).disp.eHand then 1 else 0) (figured s0 s)
    if quitOccasion s0 (figured s0 s) then quitTest u else u := rfl

theorem settle_setSup (s0 : State) (n : Nat) : settle s0 n (s.setSup x) = (settle s0 n s).setSup x := by
  simp only [settle_eq, figured_setSup, State.setSup_disp, promptCauses_setSup, quitTest_setSup]
  rw [setSup_ite]
  rfl

/-- The state in which an event began is compared by its channels and its E_hand alone (R51, R55, R111). -/
theorem settle_began (s0 : State) (n : Nat) : settle (s0.setSup x) n s = settle s0 n s := rfl

/-! ## The decision of a completion (R106 to R111) -/

theorem noticed_setSup : noticed (s.setSup x) k = (noticed s k).setSup x := rfl

theorem startRequest_setSup : startRequest (s.setSup x) k = (startRequest s k).setSup x := by
  have taken : ∀ u : State, startRequest u k =
      if (oneStart u && guardHolds u && powerHolds u k && u.isIn k .idle) = true then
        if u.port.state = .active then
          (noticed u k).setPort { u.port with queue := { u.port.queue with start := some (startOf u k) } }
        else startEnded (noticed u k) u.arb.counter
      else u := fun _ => rfl
  rw [taken, taken, noticed_setSup, startEnded_setSup, setSup_ite, setSup_ite]
  rfl

theorem decide4_setSup : decide4 (s.setSup x) = (decide4 s).setSup x := by
  have front : frontMost (s.setSup x) = frontMost s := rfl
  have stopAll : forChans stopOrder (s.setSup x) = (forChans stopOrder s).setSup x :=
    forChans_setSup s x fun u j => stopOrder_setSup u x j
  unfold decide4
  rw [stopAll, withdrawNotice_setSup, front]
  dsimp only [State.setSup_alloc, State.setSup_disp]
  rw [setSup_ite, setSup_ite]
  congr 2
  · cases frontMost s .idle with
    | none => rfl
    | some j => dsimp only; rw [startRequest_setSup, setSup_ite]; rfl
  · cases frontMost s .running with
    | none => rfl
    | some j => dsimp only; rw [stopOrder_setSup, setSup_ite, setSup_ite]; rfl

theorem dispatchAct_setSup : dispatchAct (s.setSup x) = (dispatchAct s).setSup x := by
  unfold dispatchAct
  rw [decide4_setSup, settle_began, settle_setSup, formNt_setSup]

end

end Sys2Proof.Machine
end

section
/-! PROOFS. The arrival of a latch at the end of the event that was taken before it (R162, R163; log entry 33). -/
namespace Sys2Proof.Machine

/-! ## Latches on their way -/

/-- The station with latches on their way. -/
def offering (o : Quad (Option FaultKind)) (s : State) : State := s.setSup { s.sup with offered := o }

/-- No latch at all is on its way. -/
abbrev noLatches : Quad (Option FaultKind) := ⟨none, none, none, none⟩

theorem eq_noLatches {o : Quad (Option FaultKind)} (nothing : ∀ k, quadGet o k = none) : o = noLatches := by
  obtain ⟨a, b, c, d⟩ := o
  obtain rfl : a = none := nothing .p1
  obtain rfl : b = none := nothing .p2
  obtain rfl : c = none := nothing .p3
  obtain rfl : d = none := nothing .p4
  rfl

theorem offering_quiet {t : State} (quiet : NoneOffered t) : offering noLatches t = t := by
  rw [offering, noLatches, ← quiet]; rfl

theorem latchArrives_kind {s : State} {k : Chan} {kind : FaultKind} (latch : quadGet s.sup.offered k = some kind) :
    latchArrives s k = latchFault s k kind := by
  rw [latchArrives, latch]

theorem latchArrives_none {s : State} {k : Chan} (latch : quadGet s.sup.offered k = none) : latchArrives s k = s := by
  rw [latchArrives, latch]

theorem latchArrives_checkKept {j k : Chan} (other : k ≠ j) (s : State) : CheckKept k s (latchArrives s j) := by
  cases latch : quadGet s.sup.offered j with
  | none => rw [latchArrives_none latch]; exact .refl k s
  | some kind => rw [latchArrives_kind latch]; exact latchFault_checkKept other s kind

theorem latchArrives_faultsLatched (s : State) (j k : Chan) : FaultsLatched k s (latchArrives s j) := by
  cases latch : quadGet s.sup.offered j with
  | none => rw [latchArrives_none latch]; exact .of_chan rfl
  | some kind => rw [latchArrives_kind latch]; exact latchFault_faultsLatched s j kind k

@[simp] theorem latchArrives_disp (s : State) (k : Chan) :
    (latchArrives s k).disp.rotation = s.disp.rotation ∧ (latchArrives s k).disp.table = s.disp.table ∧
      (latchArrives s k).disp.lockout = s.disp.lockout ∧ (latchArrives s k).disp.nt = s.disp.nt := by
  unfold latchArrives; split <;> simp

@[simp] theorem latchArrives_input (s : State) (k : Chan) :
    (latchArrives s k).sup.samples = s.sup.samples ∧ (latchArrives s k).sup.level = s.sup.level := by
  unfold latchArrives latchFault
  repeat' split
  all_goals simp

/-- The channels with their latches, before the end of the arrival. -/
def arrived (o : Quad (Option FaultKind)) (t : State) : State :=
  (forChans latchArrives (offering o t)).setSup { (forChans latchArrives (offering o t)).sup with offered := noLatches }

theorem latchesArrive_eq {o : Quad (Option FaultKind)} (some : o ≠ noLatches) (t : State) :
    latchesArrive (offering o t) =
      settle (offering o t) (faultCount (forChans latchArrives (offering o t)) - faultCount (offering o t)) (arrived o t) :=
  if_neg some

section
variable (o : Quad (Option FaultKind)) (t : State) (k : Chan)

/-- A latch reaches its channel in the state that the event left (R162). -/
theorem arrived_around : ∃ u, CheckKept k (offering o t) u ∧ (arrived o t).chan k = (latchArrives u k).chan k ∧
    quadGet (arrived o t).sup.watch k = quadGet (latchArrives u k).sup.watch k := by
  obtain ⟨u, before, after⟩ := forChans_around (CheckKept.refl k) CheckKept.trans k
    (fun s _ other => latchArrives_checkKept other s) (offering o t)
  exact ⟨u, before, after.chan, after.watch⟩

theorem arrived_taken {kind : FaultKind} (latch : quadGet o k = some kind) (turns : t.turning k = true) :
    ((arrived o t).chan k).Off .fault ∧ ((arrived o t).chan k).rest = none ∧
      quadGet (arrived o t).sup.watch k = ⟨0, 0, 0, some kind⟩ := by
  obtain ⟨u, before, chan, watch⟩ := arrived_around o t k
  rw [chan, watch, latchArrives_kind (before.offered.trans latch), latchFault_turning ((turning_congr before.chan).trans turns),
    moveChan_chan, if_pos rfl]
  refine ⟨parked_off _ _, rfl, ?_⟩
  rw [(moveChan_frame _ _ _).2.2.2.2.2.2.2.2.1, State.setSup_sup, quadGet_quadSet_same]
  rfl

theorem arrived_discarded {kind : FaultKind} (latch : quadGet o k = some kind) (still : t.turning k = false) :
    (arrived o t).chan k = t.chan k ∧ quadGet (arrived o t).sup.watch k = ⟨0, 0, 0, (quadGet t.sup.watch k).latch⟩ := by
  obtain ⟨u, before, chan, watch⟩ := arrived_around o t k
  rw [chan, watch, latchArrives_kind (before.offered.trans latch), latchFault_still ((turning_congr before.chan).trans still)]
  refine ⟨before.chan, ?_⟩
  rw [State.setSup_sup, quadGet_quadSet_same, before.watch]
  rfl

theorem arrived_other (latch : quadGet o k = none) :
    (arrived o t).chan k = t.chan k ∧ quadGet (arrived o t).sup.watch k = quadGet t.sup.watch k := by
  obtain ⟨u, before, chan, watch⟩ := arrived_around o t k
  rw [chan, watch, latchArrives_none (before.offered.trans latch)]
  exact ⟨before.chan, before.watch⟩

@[simp] theorem arrived_frame :
    (arrived o t).ctl = t.ctl ∧ (arrived o t).acq = t.acq ∧ (arrived o t).port = t.port ∧ (arrived o t).sched = t.sched ∧
      (arrived o t).view = t.view ∧ (arrived o t).allow = t.allow ∧ (arrived o t).maint = t.maint ∧
      (arrived o t).disp.rotation = t.disp.rotation ∧ (arrived o t).disp.table = t.disp.table ∧
      (arrived o t).disp.lockout = t.disp.lockout ∧ (arrived o t).disp.nt = t.disp.nt ∧
      (arrived o t).sup.samples = t.sup.samples ∧ (arrived o t).sup.level = t.sup.level := by
  simp [arrived, forChans, offering]

theorem arrived_fault {kind : FaultKind} (latch : quadGet o k = some kind) (turns : t.turning k = true) :
    (arrived o t).isIn k .fault = true := by
  rw [State.isIn, State.chanState, (arrived_taken o t k latch turns).1.state]; rfl

/-- A latch that is taken is a prompt cause (R163). -/
theorem arrived_causes {kind : FaultKind} (latch : quadGet o k = some kind) (turns : t.turning k = true) :
    0 < faultCount (forChans latchArrives (offering o t)) - faultCount (offering o t) := by
  have stays : ∀ j, (offering o t).isIn j .fault = true → (forChans latchArrives (offering o t)).isIn j .fault = true := fun j =>
    (forChans_keeps (P := FaultsLatched j (offering o t)) (fun u i h => h.trans (latchArrives_faultsLatched u i j)) _
      (.of_chan rfl)).stays
  exact Nat.sub_pos_of_lt ((faultCount_lt_iff stays).2 ⟨k, not_fault_of_turning (s := offering o t) turns,
    arrived_fault o t k latch turns⟩)

end

/-- An event without an occasion leaves the QUIT as it is. -/
theorem QuitTested.refl (s : State) : QuitTested s s where
  offered _ _ occasion := by rcases occasion with ⟨k, h⟩ | h <;> exact absurd rfl h
  heldBack leaving _ := ⟨leaving, rfl, rfl⟩

theorem latchesArrived_nothing {t : State} (quiet : NoneOffered t) : LatchesArrived noLatches t t := by
  have nothing : ∀ k, quadGet noLatches k = none := fun k => by cases k <;> rfl
  refine ⟨fun k kind latch => ?_, fun k kind latch => ?_, fun _ _ => ⟨rfl, rfl⟩, fun _ => rfl, quiet, ?_, ?_, ?_,
    QuitTested.refl t, rfl, rfl, rfl, rfl, rfl, rfl, rfl, rfl, rfl⟩
  · rw [nothing] at latch; cases latch
  · rw [nothing] at latch; cases latch
  · exact fun ⟨k, latch⟩ => absurd (nothing k) latch
  · exact fun ⟨k, latch, _⟩ => absurd (nothing k) latch
  · exact fun ⟨k, latch, _⟩ => absurd (nothing k) latch

/-- Latches on their way reach their channels at the end of the event (R162, R163; log entry 33). -/
theorem latchesArrive_arrived {t : State} (quiet : NoneOffered t) (o : Quad (Option FaultKind)) :
    LatchesArrived o t (latchesArrive (offering o t)) := by
  by_cases empty : o = noLatches
  · subst empty
    rw [offering_quiet quiet, latchesArrive_none t quiet]
    exact latchesArrived_nothing quiet
  have gone := latchesArrive_gone (offering o t)
  rw [latchesArrive_eq empty] at gone ⊢
  set n := faultCount (forChans latchArrives (offering o t)) - faultCount (offering o t) with count
  have sup : (settle (offering o t) n (arrived o t)).sup = (arrived o t).sup := by simp
  have quit : QuitTested (offering o t) (settle (offering o t) n (arrived o t)) :=
    settle_quitTested _ _ _ (by simp [offering]) (by simp [offering]) (by simp [offering]) (by simp [offering])
  constructor
  case taken => intro k kind latch turns; rw [settle_chan, sup]; exact arrived_taken o t k latch turns
  case discarded => intro k kind latch still; rw [settle_chan, sup]; exact arrived_discarded o t k latch still
  case others => intro k latch; rw [settle_chan, sup]; exact arrived_other o t k latch
  case none => exact fun nothing => absurd (eq_noLatches nothing) empty
  case gone => exact gone
  case figures => exact fun _ => settle_formed _ _ _
  case target =>
    rintro ⟨k, latch, turns⟩
    obtain ⟨kind, latch⟩ := Option.ne_none_iff_exists'.1 latch
    exact (settle_speedTarget _ n _ (speedTargetDue_of_fault (arrived_fault o t k latch turns)
      (not_fault_of_turning (s := offering o t) turns))).of_nt (by simp)
  case prompt =>
    rintro ⟨k, latch, turns⟩ reporting stays
    obtain ⟨kind, latch⟩ := Option.ne_none_iff_exists'.1 latch
    have prompted := settle_prompted (offering o t) n (arrived o t) (by simpa [State.reporting] using reporting)
      (.inl (arrived_causes o t k latch turns)) (by simpa using stays)
    exact prompted.congr_left (by simp) (by simp) (by simp) (by simp) (StageOnLine.congr (by simp))
  case quit => exact ⟨quit.offered, quit.heldBack⟩
  case frame => simp

/-! ## The events that may be taken before a latch (log entry 33) -/

/-- What an event does before the arrival is the same with latches on their way. -/
def Unoffered (f : State → State) : Prop := ∀ o s, f (offering o s) = offering o (f s)

/-- An operation that neither reads nor writes the current checks. -/
theorem Unoffered.of_setSup {f : State → State} (passes : ∀ s x, f (s.setSup x) = (f s).setSup x) (sup : ∀ s, (f s).sup = s.sup) :
    Unoffered f := fun o s => by
  rw [offering, passes, offering, sup]

/-- An event that ends with the arrival of the latches (R148, R150, R151, R165). -/
theorem Unoffered.arrives {f : State → State} (h : Unoffered f) (s : State) :
    latchesArrive (f (offering noLatches s)) = f (offering noLatches s) ∧
      LatchesArrived s.sup.offered (f (offering noLatches s)) (latchesArrive (f s)) := by
  have quiet : NoneOffered (f (offering noLatches s)) := by rw [h]; rfl
  have offered : f s = offering s.sup.offered (f (offering noLatches s)) := by
    rw [← h]; rfl
  refine ⟨latchesArrive_none _ quiet, ?_⟩
  rw [offered]
  exact latchesArrive_arrived quiet _

theorem Unoffered.arrives_exec {f : State → State} (h : Unoffered f) {c : Instr}
    (run : ∀ s, exec c s = .next (latchesArrive (f s))) (s : State) :
    ∃ t u, exec c (offering noLatches s) = .next t ∧ exec c s = .next u ∧ LatchesArrived s.sup.offered t u := by
  obtain ⟨still, arrived⟩ := h.arrives s
  exact ⟨_, _, by rw [run, still], run s, arrived⟩

theorem LatchesArrived.answered {o : Quad (Option FaultKind)} {t u : State} (h : LatchesArrived o t u) (r : Response) :
    LatchesArrived o (respond t r) (respond u r) where
  taken := h.taken
  discarded := h.discarded
  others := h.others
  none nothing := by rw [h.none nothing]
  gone := h.gone
  figures latch := ⟨(h.figures latch).crun, (h.figures latch).auto, (h.figures latch).hand, (h.figures latch).power⟩
  target latch := ⟨(h.target latch).formed, (h.target latch).kept⟩
  prompt latch reporting stays := ⟨(h.prompt latch reporting stays).pending, (h.prompt latch reporting stays).atOnce⟩
  quit := ⟨h.quit.offered, h.quit.heldBack⟩
  frame := by
    obtain ⟨ctl, acq, allow, maint, rest⟩ := h.frame
    refine ⟨ctl, acq, allow, ?_, rest⟩
    simp only [respond, State.setMaint_maint, maint]

/-! ### A scan timer expiry (R138, R141 to R143) -/

/-- A scan timer expiry up to the arrival. -/
def scanTimerTaken (contacts : Quad Contacts) (s : State) : State :=
  if s.acq.scanTimer.isSome then scanTimerEnd contacts s else s

theorem scanTimerExpiry_run (contacts : Quad Contacts) (s : State) :
    exec (.scanTimerExpiry contacts) s = .next (latchesArrive (scanTimerTaken contacts s)) := by
  simp only [exec, execScanTimerExpiry, scanTimerTaken, scanTimerEnd]
  split
  · split
    case isTrue => rfl
    case isFalse same => rw [modesTaken_unchanged contacts s (by simpa using same)]; rfl
  · rfl

theorem modesTaken_setSup (contacts : Quad Contacts) (s : State) (x : Supervision) :
    modesTaken contacts (s.setSup x) = (modesTaken contacts s).setSup x := by
  have mode : ∀ u k, takeMode contacts (s.setSup x) (u.setSup x) k = (takeMode contacts s u k).setSup x := fun u k => by
    unfold takeMode
    rw [modeChange_setSup, setSup_ite]; rfl
  have sample : sampled contacts (s.setSup x) = (sampled contacts s).setSup x := rfl
  unfold modesTaken
  rw [sample]
  simp only [forChans, mode]

theorem scanTimerTaken_unoffered (contacts : Quad Contacts) : Unoffered (scanTimerTaken contacts) := by
  refine .of_setSup (fun s x => ?_) (fun s => ?_)
  · unfold scanTimerTaken scanTimerEnd
    rw [settle_began, modesTaken_setSup, settle_setSup, setSup_ite, setSup_ite]
    rfl
  · have sup : (modesTaken contacts s).sup = s.sup := (modesTaken_modeFrame contacts s).sup
    unfold scanTimerTaken scanTimerEnd
    repeat' split
    all_goals simp [sup]

/-! ### An allocation completion (R81, R106) -/

/-- An allocation completion up to the arrival. -/
def completionTaken (s : State) : State :=
  match s.alloc.snapshot with
  | none => s
  | some x => if s.reporting then dispatchAct (publishAllocation s x) else publishAllocation s x

theorem allocationCompletion_run (s : State) : exec .allocationCompletion s = .next (latchesArrive (completionTaken s)) := by
  simp only [exec, execAllocationCompletion, completionTaken]
  cases s.alloc.snapshot <;> rfl

theorem completionTaken_unoffered : Unoffered completionTaken := by
  refine .of_setSup (fun s x => ?_) (fun s => ?_)
  · unfold completionTaken
    rw [State.setSup_alloc]
    cases s.alloc.snapshot with
    | none => rfl
    | some sn =>
      have published : publishAllocation (s.setSup x) sn = (publishAllocation s sn).setSup x := rfl
      dsimp only
      rw [published, dispatchAct_setSup, setSup_ite]
      rfl
  · have decided : ∀ u, (dispatchAct u).sup = u.sup := fun u => (dispatchAct_frame u).2.2.2.1
    unfold completionTaken
    repeat' split
    all_goals simp [decided, publishAllocation]

/-! ### A slew expiry (R112, R113) -/

/-- A slew expiry up to the arrival. -/
def slewTaken (s : State) : State := if s.disp.slewTimer.isSome then settle s 0 (slewn s) else s

theorem slewTimerExpiry_run (s : State) : exec .slewTimerExpiry s = .next (latchesArrive (slewTaken s)) := rfl

theorem slewTaken_unoffered : Unoffered slewTaken := by
  refine .of_setSup (fun s x => ?_) (fun s => ?_)
  · have moved : slewn (s.setSup x) = (slewn s).setSup x := forChans_setSup s x fun u j => slewChan_setSup u x j
    unfold slewTaken
    rw [settle_began, moved, settle_setSup, setSup_ite]
    rfl
  · unfold slewTaken
    split <;> simp

/-! ### The end of a start window (R148, R161) -/

/-- The end of a start window up to the arrival. -/
def windowTaken (k : Chan) (s : State) : State :=
  if s.isIn k .starting ∧ (s.chan k).window.isSome = true then
    if noStartFails s k then settle s 1 (latchFault s k .noStart)
    else settle s 0 (moveChan s k { s.chan k with state := some .running, window := none })
  else s

theorem startWindowExpiry_run (k : Chan) (s : State) :
    exec (.startWindowExpiry k) s = .next (latchesArrive (windowTaken k s)) := rfl

theorem latchFault_offering (o : Quad (Option FaultKind)) (s : State) (k : Chan) (kind : FaultKind) :
    latchFault (offering o s) k kind = offering o (latchFault s k kind) := by
  cases turns : s.turning k
  · exact (latchFault_still (s := offering o s) turns kind).trans (congrArg (offering o) (latchFault_still turns kind)).symm
  · exact (latchFault_turning (s := offering o s) turns kind).trans (congrArg (offering o) (latchFault_turning turns kind)).symm

theorem settle_unoffered (s0 : State) (n : Nat) : Unoffered (settle s0 n) :=
  .of_setSup (fun s x => settle_setSup s x s0 n) (fun s => by simp)

theorem windowTaken_unoffered (k : Chan) : Unoffered (windowTaken k) := fun o s => by
  have fails : settle (offering o s) 1 (latchFault (offering o s) k .noStart) = offering o (settle s 1 (latchFault s k .noStart)) := by
    rw [latchFault_offering, settle_unoffered]; rfl
  have runs : ∀ c, settle (offering o s) 0 (moveChan (offering o s) k c) = offering o (settle s 0 (moveChan s k c)) := fun c =>
    settle_unoffered s 0 o (moveChan s k c)
  unfold windowTaken
  rw [fails, apply_ite (offering o), apply_ite (offering o)]
  simp only [← runs]
  rfl

/-! ### A clear of the latches (R165) -/

/-- The channels in FAULT leave it (R152). -/
def faultsEnded (s : State) : State :=
  if anyChan fun k => s.isIn k .fault then settle s 0 (forChans leaveFault s) else s

theorem faultsEnded_unoffered : Unoffered faultsEnded := by
  refine .of_setSup (fun s x => ?_) (fun s => ?_)
  · have left :
      forChans leaveFault (s.setSup x) = (forChans leaveFault s).setSup x := forChans_setSup s x fun u j => leaveFault_setSup u x j
    unfold faultsEnded
    rw [settle_began, left, settle_setSup, setSup_ite]
    rfl
  · have sup : (forChans leaveFault s).sup = s.sup :=
      forChans_keeps (P := fun u => u.sup = s.sup) (fun u k h => by
        unfold leaveFault; split
        · simpa using h
        · exact h) s rfl
    unfold faultsEnded
    split <;> simp [sup]

theorem faultsCleared_unoffered : Unoffered faultsCleared := fun o s => faultsEnded_unoffered o (watchesReset s)

/-- An event that clears the latches and answers OK after the arrival (R165, R184). -/
theorem Unoffered.arrives_answered {f : State → State} (h : Unoffered f) {c : Instr} {s : State}
    (run0 : exec c (offering noLatches s) = .next (respond (latchesArrive (f (offering noLatches s))) .ok))
    (run : exec c s = .next (respond (latchesArrive (f s)) .ok)) :
    ∃ t u, exec c (offering noLatches s) = .next t ∧ exec c s = .next u ∧ LatchesArrived s.sup.offered t u := by
  obtain ⟨still, arrived⟩ := h.arrives s
  exact ⟨_, _, by rw [run0, still], run, arrived.answered .ok⟩

theorem clearFaults_run {s : State} (opened : s.portOpen = true) (held : s.maint.held = none) (silent : s.maint.response = none) :
    exec .clearFaults s = .next (respond (latchesArrive (faultsCleared s)) .ok) :=
  congrArg Host.Outcome.next (submitRequest_idle opened held silent .clearFaults)

/-- The line buffer emptied by the CR (R184). -/
def lineTaken (s : State) : State := s.setMaint { s.maint with buffer := [], badLine := false }

theorem clearLine_run {s : State} (opened : s.portOpen = true) (held : s.maint.held = none) (silent : s.maint.response = none)
    (line : readLine s.maint.badLine s.maint.buffer = .request .clearFaults) :
    exec (.characterReceived 0x0D#8 false) s = .next (respond (latchesArrive (faultsCleared (lineTaken s))) .ok) := by
  have filled : s.maint.buffer.all (· == charSpace) = false := by
    by_contra blank
    rw [readLine_blank _ _ (by simpa using blank)] at line
    cases line
  have completed : exec (.characterReceived 0x0D#8 false) s = .next (submitLine (lineTaken s) (.request .clearFaults)) := by
    simp [exec, execCharacterReceived, completeLine, opened, held, line, filled, charCR, lineTaken]
  rw [completed, submitLine, if_neg (by simp [lineTaken, silent])]
  rfl

/-- The response that was being sent has ended (R184). -/
def responseDone (s : State) : State := s.setMaint { s.maint with response := none, held := none }

theorem responseEnd_run {s : State} (sending : s.maint.response.isSome = true)
    (held : s.maint.held = some (.request .clearFaults)) :
    exec .responseEnd s = .next (respond (latchesArrive (faultsCleared (responseDone s))) .ok) := by
  simp only [exec, execResponseEnd, sending, held, if_true]
  rfl

theorem resetEdge_run {s : State} (level : s.sup.level = some false) (agree : s.sup.samples.take 4 = [true, true, true, true])
    (released : s.ctl.resetHeld = false) :
    exec (.faultResetSample true) s = .next (latchesArrive (faultsCleared (s.setSup (s.sup.sampled true)))) := by
  rw [faultResetSample_eq s true released, if_pos ((risingEdge_iff s true).2 ⟨rfl, level, agree⟩)]
  rfl

/-- Settles O19: the checks of one channel between those of the others (`checkedBetween`), and one arrival for all the
events that may be taken before it (`Unoffered`). -/
theorem supervisionCountsAndLatchesByTheDeglitchRun : Obligations.SupervisionCountsAndLatchesByTheDeglitchRun := by
  refine ⟨fun c s k scan config fitted => ?counts, fun s => ?arrival⟩
  case counts =>
    obtain rfl : s.cfg = c := by simp [State.cfg, config]
    obtain ⟨level, sump⟩ := publish_sump config
    have acq : (settle s (scanCauses s) (followRiver (scanJudged s))).acq = (publish s).acq := by simp [(scanJudged_frame s).2.1]
    refine ⟨_, scanCompletion_with s _ scan config, level, by rw [acq, sump], ?_⟩
    intro sets p n w count oc sl ul free agreed meets latched
    obtain ⟨u, before, published, after⟩ := checkedBetween (k := k) config sump sets
    have fits : u.fitted k = true := (fitted_congr (congrArg Controller.config before.ctl) k).trans fitted
    have pump : u.pump k = p := pump_congr (congrArg Controller.config before.ctl) k
    have current : u.current k =
        (quadGet (settle s (scanCauses s) (followRiver (scanJudged s))).acq.pub.currents k).working := by
      rw [State.current, published, acq]
    have counts : watchCounts u k = ⟨oc, sl, ul, w.latch⟩ := by
      rw [watchCounts_eq, current, pump, before.watch, isIn_congr before.chan, isIn_congr before.chan, isIn_congr before.chan]
      rfl
    have latch : ∀ kind, faultOf n ⟨oc, sl, ul, w.latch⟩ = some kind → latched kind := fun kind latches => by
      obtain ⟨taken, waiting⟩ := scanCompletion_latched before after fits (kind := kind)
        (by rw [pump, counts]; exact latches) (scanCauses s)
      rw [counts] at waiting
      refine ⟨(counted u k).latchWaits k, fun other => ?_, fun rest next waits => ?_, taken, waiting⟩
      · have meets_iff : Awaited s k ↔ meets := by
          unfold Awaited meets
          rcases s.pending with _ | ⟨c, rest⟩
          · exact Iff.rfl
          · cases c <;> exact Iff.rfl
        rw [before.latchWaits_iff fits other, meets_iff, current]
      · have stops := before.latchWaits_completion next waits
        rwa [current] at stops
    refine ⟨fun reached => latch _ (faultOf_overcurrent reached),
      fun oc' sl' reached => latch _ (faultOf_underload oc' sl' reached), fun oc' sl' ul' => ?_⟩
    rw [← counts]
    exact scanCompletion_counted before after fits (by rw [pump, counts]; exact faultOf_below oc' sl' ul') _
  case arrival =>
    refine ⟨fun contacts => (scanTimerTaken_unoffered contacts).arrives_exec (scanTimerExpiry_run contacts) s,
      completionTaken_unoffered.arrives_exec allocationCompletion_run s,
      slewTaken_unoffered.arrives_exec slewTimerExpiry_run s,
      fun j => (windowTaken_unoffered j).arrives_exec (startWindowExpiry_run j) s,
      fun opened held silent => ⟨?request, fun line => ?line⟩, fun sending held => ?response, fun level agree released => ?edge⟩
    case request =>
      exact faultsCleared_unoffered.arrives_answered (clearFaults_run opened held silent) (clearFaults_run opened held silent)
    case line =>
      have taken : Unoffered (faultsCleared ∘ lineTaken) := fun o u => faultsCleared_unoffered o (lineTaken u)
      exact taken.arrives_answered (clearLine_run opened held silent line) (clearLine_run opened held silent line)
    case response =>
      have taken : Unoffered (faultsCleared ∘ responseDone) := fun o u => faultsCleared_unoffered o (responseDone u)
      exact taken.arrives_answered (responseEnd_run sending held) (responseEnd_run sending held)
    case edge =>
      have taken : Unoffered fun u => faultsCleared (u.setSup (u.sup.sampled true)) := fun o u =>
        faultsCleared_unoffered o (u.setSup (u.sup.sampled true))
      obtain ⟨still, arrived⟩ := taken.arrives s
      refine ⟨_, _, ?_, resetEdge_run level agree released, arrived⟩
      rw [← still]
      exact resetEdge_run (s := offering noLatches s) level agree released

end Sys2Proof.Machine
end

section
/-! PROOFS. One start at a time: what the moves of an event and its end leave of the own notice and of the channels in NOTICE and
STARTING (sections 7.1, 7.4 and 8.5). -/
namespace Sys2Proof.Machine

/-! ## The own notice and the channels that start -/

/-- The channel that the own notice names (R119). -/
def Arbiter.named (a : Arbiter) : Option Chan := a.notice.map (·.channel)

/-- The own notice names the channel in NOTICE, and stands for no other (R119). -/
def NoticeStands (s : State) : Prop := ∀ k, s.isIn k .notice = true ↔ s.arb.named = some k

theorem named_iff (a : Arbiter) (k : Chan) : a.named = some k ↔ ∃ n, a.notice = some n ∧ n.channel = k := by
  simp [Arbiter.named]

theorem oneStartAtATime_iff (s : State) :
    OneStartAtATime s ↔ NoticeStands s ∧ ∀ j k, s.starts j = true → s.starts k = true → j = k := by
  simp only [NoticeStands, named_iff]
  exact ⟨fun h => ⟨h.notice, h.atMost⟩, fun h => ⟨h.1, h.2⟩⟩

theorem starts_iff (s : State) (k : Chan) : s.starts k = true ↔ s.isIn k .notice = true ∨ s.isIn k .starting = true :=
  Bool.or_eq_true_iff

theorem isIn_iff (s : State) (k : Chan) (x : ChanState) : s.isIn k x = true ↔ (s.chan k).state = some x := beq_iff_eq

/-- A channel in one state is not in another. -/
theorem isIn_other {s : State} {k : Chan} {x y : ChanState} (h : s.isIn k x = true) (other : x ≠ y) : s.isIn k y = false := by
  rw [isIn_iff] at h
  simp [State.isIn, State.chanState, h, other]

theorem not_notice_of_inR {s : State} {k : Chan} (h : s.inR k = true) : s.isIn k .notice = false := by
  rcases Bool.or_eq_true_iff.1 h with starting | running
  · exact isIn_other starting (by decide)
  · exact isIn_other running (by decide)

theorem not_notice_of_turning {s : State} {k : Chan} (h : s.turning k = true) : s.isIn k .notice = false := by
  rcases Bool.or_eq_true_iff.1 h with inR | stopping
  · exact not_notice_of_inR inR
  · exact isIn_other stopping (by decide)

theorem starts_congr {s t : State} {k : Chan} (chan : t.chan k = s.chan k) : t.starts k = s.starts k := by
  simp only [State.starts, isIn_congr chan]

/-- A station without a notice in which no channel starts. -/
structure Startless (s : State) : Prop where
  notice : s.arb.notice = none
  starts : ∀ k, s.starts k = false

theorem Startless.oneStart {s : State} (h : Startless s) : OneStartAtATime s := by
  refine (oneStartAtATime_iff s).2 ⟨fun k => ?_, fun j k starts => absurd starts (by simp [h.starts j])⟩
  have still : s.isIn k .notice = false := (Bool.or_eq_false_iff.1 (h.starts k)).1
  simp [still, Arbiter.named, h.notice]

/-! ## Moves that begin no start -/

/-- From `s` to `t` no channel begins to start, and a notice that stands for its channel goes on to, or goes with it. -/
structure NoneBegins (s t : State) : Prop where
  stands : NoticeStands s → NoticeStands t
  before : NoticeStands s → ∀ k, t.starts k = true → s.starts k = true

theorem NoneBegins.refl (s : State) : NoneBegins s s := ⟨id, fun _ _ => id⟩

theorem NoneBegins.trans {s t u : State} (h : NoneBegins s t) (g : NoneBegins t u) : NoneBegins s u where
  stands := g.stands ∘ h.stands
  before stands k := h.before stands k ∘ g.before (h.stands stands) k

/-- Where no channel begins to start, at most one starts as before. -/
theorem NoneBegins.oneStart {s t : State} (h : NoneBegins s t) (one : OneStartAtATime s) : OneStartAtATime t := by
  obtain ⟨stands, atMost⟩ := (oneStartAtATime_iff s).1 one
  have before := h.before stands
  exact (oneStartAtATime_iff t).2 ⟨h.stands stands, fun j k hj hk => atMost j k (before j hj) (before k hk)⟩

section
variable {s t : State} (named : t.arb.named = s.arb.named)
include named

/-- The notice keeps its channel, the same channels are in NOTICE, and none enters STARTING. -/
theorem NoneBegins.of_isIn (notice : ∀ k, t.isIn k .notice = s.isIn k .notice)
    (starting : ∀ k, t.isIn k .starting = true → s.isIn k .starting = true) : NoneBegins s t := by
  refine ⟨fun stands k => by rw [notice, named]; exact stands k, fun _ k starts => ?_⟩
  rw [starts_iff, notice] at starts
  exact (starts_iff s k).2 (starts.imp_right (starting k))

theorem NoneBegins.of_states (states : ∀ k, (t.chan k).state = (s.chan k).state) : NoneBegins s t := by
  have same : ∀ k x, t.isIn k x = s.isIn k x := fun k x => by simp only [State.isIn, State.chanState, states]
  exact .of_isIn named (fun k => same k _) fun k => (same k _ ▸ id)

/-- What touches neither the channels nor the channel of the notice. -/
theorem NoneBegins.of_frame (chans : t.chans = s.chans) : NoneBegins s t :=
  .of_states named fun k => by simp only [State.chan, chans]

end

/-- A channel that has left NOTICE, with the notice gone and every other channel as it was (R128, R131). -/
theorem NoneBegins.of_noticeLeft {s t : State} {k : Chan} (waits : NoticeStands s → s.isIn k .notice = true)
    (gone : t.arb.notice = none) (left : NoticeStands s → t.isIn k .notice = false)
    (others : NoticeStands s → ∀ j, j ≠ k → t.chan j = s.chan j) : NoneBegins s t := by
  refine ⟨fun stands j => ?_, fun stands j starts => ?_⟩
  · have named : s.arb.named = some k := (stands k).1 (waits stands)
    have absent : t.isIn j .notice = false := by
      by_cases same : j = k
      · rw [same]; exact left stands
      · have elsewhere : s.isIn j .notice ≠ true := fun here =>
          same (Option.some.inj ((((stands j).1 here).symm.trans named)))
        rw [isIn_congr (others stands j same)]
        simpa using elsewhere
    simp [absent, Arbiter.named, gone]
  · by_cases same : j = k
    · rw [same, starts_iff]; exact .inl (waits stands)
    · rwa [starts_congr (others stands j same)] at starts

/-! ## Channel moves (chapter 8) -/

/-- A channel outside NOTICE that is moved to a state in which it does not start. -/
theorem moveChan_noneBegins {s : State} {k : Chan} {c : Channel} {x : ChanState} (waits : s.isIn k .notice = false)
    (state : c.state = some x) (calm : x ≠ .notice ∧ x ≠ .starting) : NoneBegins s (moveChan s k c) := by
  refine .of_isIn rfl (fun j => ?_) fun j starting => ?_
  · rw [moveChan_isIn]; split
    case isTrue same => simp [same, waits, state, calm.1]
    case isFalse => rfl
  · rw [moveChan_isIn] at starting; split at starting
    case isTrue => simp [state, calm.2] at starting
    case isFalse => exact starting

theorem enterResting_noneBegins {s : State} {k : Chan} (waits : s.isIn k .notice = false) :
    NoneBegins s (enterResting s k) := by
  unfold enterResting; split
  · exact moveChan_noneBegins (x := .idle) waits rfl (by decide)
  · exact moveChan_noneBegins (x := .resting) waits rfl (by decide)

theorem placeByMode_noneBegins {s : State} {k : Chan} (waits : s.isIn k .notice = false) : NoneBegins s (placeByMode s k) := by
  unfold placeByMode; split
  · exact enterResting_noneBegins waits
  · exact moveChan_noneBegins (x := .inLocal) waits rfl (by decide)
  · exact moveChan_noneBegins (x := .disabled) waits rfl (by decide)
  · exact .refl s

theorem stopOrder_noneBegins (s : State) (k : Chan) : NoneBegins s (stopOrder s k) := by
  unfold stopOrder; split
  case isTrue inR => exact moveChan_noneBegins (x := .stopping) (not_notice_of_inR inR) rfl (by decide)
  case isFalse => exact .refl s

theorem dryRunOrder_noneBegins (s : State) (k : Chan) : NoneBegins s (dryRunOrder s k) := by
  unfold dryRunOrder; split
  case isTrue turning => exact enterResting_noneBegins (not_notice_of_turning turning)
  case isFalse => exact .refl s

theorem setSup_noneBegins (s : State) (x : Supervision) : NoneBegins s (s.setSup x) := .of_frame rfl rfl

theorem latchFault_noneBegins (s : State) (k : Chan) (kind : FaultKind) : NoneBegins s (latchFault s k kind) := by
  unfold latchFault; split
  case isTrue turning =>
    have waits := not_notice_of_turning turning
    exact (setSup_noneBegins s _).trans (moveChan_noneBegins (x := .fault) waits rfl (by decide))
  case isFalse => exact setSup_noneBegins s _

theorem slewChan_noneBegins (s : State) (k : Chan) : NoneBegins s (slewChan s k) := by
  by_cases waits : s.isIn k .notice = true
  · rw [isIn_iff] at waits
    rw [slewChan_still (by simp [waits]) (by simp [waits]) (by simp [waits])]
    exact .refl s
  · rcases slewChan_cases s k with still | ⟨n, moved⟩ | rests
    · rw [still]; exact .refl s
    · rw [moved]
      refine .of_states rfl fun j => ?_
      rw [State.setChan_chan]
      split
      case isTrue same => rw [same]
      case isFalse => rfl
    · rw [rests]; exact enterResting_noneBegins (by simpa using waits)

/-- Where the move of each channel begins no start, the moves of all four begin none. -/
theorem forChans_noneBegins {f : State → Chan → State} (h : ∀ s k, NoneBegins s (f s k)) (s : State) :
    NoneBegins s (forChans f s) :=
  forChans_keeps (P := NoneBegins s) (fun u k hu => hu.trans (h u k)) s (.refl s)

/-! ## The notice through the reports on its frame and the end of an event (R123) -/

@[simp] theorem startEnded_named (s : State) (number : Nat) : (startEnded s number).arb.named = s.arb.named := by
  unfold startEnded
  split
  case h_1 n notice => split <;> simp [startHoldOff, Arbiter.named, notice]
  case h_2 => rfl

@[simp] theorem startPhase_named (s : State) (number : Nat) (phase : NoticePhase) :
    (startPhase s number phase).arb.named = s.arb.named := by
  unfold startPhase
  split
  case h_1 n notice => split <;> simp [Arbiter.named, notice]
  case h_2 => rfl

@[simp] theorem quitTest_named (s : State) : (quitTest s).arb.named = s.arb.named := by
  unfold quitTest offerQuit
  dsimp only
  repeat' split
  all_goals simp

@[simp] theorem settle_named (s0 : State) (n : Nat) (s : State) : (settle s0 n s).arb.named = s.arb.named := by
  unfold settle
  dsimp only
  repeat' split
  all_goals simp

@[simp] theorem reportDiscarded_named (s : State) (onLine : Bool) (f : Frame) :
    (reportDiscarded s onLine f).arb.named = s.arb.named := by
  unfold reportDiscarded
  repeat' split
  all_goals simp

@[simp] theorem reportDiscardedIf_named (s : State) (onLine : Bool) (f : Option Frame) :
    (reportDiscardedIf s onLine f).arb.named = s.arb.named := by
  unfold reportDiscardedIf; split <;> simp

@[simp] theorem leaveActive_named (s : State) (x : PortState) : (leaveActive s x).arb.named = s.arb.named := by
  simp [leaveActive]

@[simp] theorem enterLineFault_named (s : State) : (enterLineFault s).arb.named = s.arb.named := by
  simp [enterLineFault]

@[simp] theorem enterMute_named (s : State) : (enterMute s).arb.named = s.arb.named := by
  unfold enterMute; split <;> simp

@[simp] theorem muteOrder_named (s : State) : (muteOrder s).arb.named = s.arb.named := by
  unfold muteOrder; split <;> simp

/-- The end of an event moves no channel, and the notice keeps its channel. -/
theorem settle_noneBegins (s0 : State) (n : Nat) (s : State) : NoneBegins s (settle s0 n s) :=
  .of_frame (by simp) (by simp)

theorem NoneBegins.settled {s t : State} (h : NoneBegins s t) (s0 : State) (n : Nat) : NoneBegins s (settle s0 n t) :=
  h.trans (settle_noneBegins s0 n t)

/-! ## Latches and their clear (chapter 9) -/

theorem latchesArrive_noneBegins (s : State) : NoneBegins s (latchesArrive s) := by
  have arrive : ∀ u k, NoneBegins u (latchArrives u k) := fun u k => by
    unfold latchArrives; split
    · exact latchFault_noneBegins u k _
    · exact .refl u
  unfold latchesArrive; split
  · exact .refl s
  · exact ((forChans_noneBegins arrive s).trans (setSup_noneBegins _ _)).settled _ _

theorem clearFaultLatches_noneBegins (s : State) : NoneBegins s (clearFaultLatches s) := by
  have left : ∀ u k, NoneBegins u (leaveFault u k) := fun u k => by
    unfold leaveFault; split
    case isTrue fault => exact placeByMode_noneBegins (isIn_other fault (by decide))
    case isFalse => exact .refl u
  have reset : NoneBegins s (watchesReset s) := setSup_noneBegins s _
  have cleared : NoneBegins s (faultsCleared s) := by
    unfold faultsCleared; split
    · exact (reset.trans (forChans_noneBegins left _)).settled _ 0
    · exact reset
  exact cleared.trans (latchesArrive_noneBegins _)

/-! ## The ends of a notice: withdrawn, rechecked, or left by a mode change (R128, R129, R139) -/

theorem noticeStands_waits {s : State} {n : OwnNotice} (notice : s.arb.notice = some n) (stands : NoticeStands s) :
    s.isIn n.channel .notice = true :=
  (stands _).2 ((named_iff _ _).2 ⟨n, notice, rfl⟩)

theorem withdrawNotice_noneBegins (s : State) : NoneBegins s (withdrawNotice s) := by
  cases notice : s.arb.notice with
  | none => rw [withdrawNotice_none s notice]; exact .refl s
  | some n =>
    have chan := withdrawNotice_chan s n notice
    refine .of_noticeLeft (noticeStands_waits notice) ?_ (fun stands => ?_) fun _ j other => ?_
    · rw [withdrawNotice_arb]; exact (dropNotice_arb s).1
    · rw [State.isIn, State.chanState, chan, if_pos ⟨rfl, noticeStands_waits notice stands⟩]; rfl
    · rw [chan, if_neg (fun h => other h.1)]

theorem rechecked_noneBegins {s : State} {n : OwnNotice} (notice : s.arb.notice = some n) :
    NoneBegins s (rechecked s n.channel) := by
  refine .of_noticeLeft (noticeStands_waits notice) (by simp [noticeDone]) (fun stands => ?_) fun stands j other =>
    rechecked_other (noticeStands_waits notice stands) other
  have waits : s.isIn n.channel .notice = true := noticeStands_waits notice stands
  unfold rechecked; split <;> rw [State.isIn, State.chanState]
  · rw [startOrder_chan (s := noticeDone s) waits, if_pos rfl]; rfl
  · rw [backToIdle_chan, if_pos ⟨rfl, waits⟩]; rfl

/-- A placement by a mode leaves a channel in a state in which it does not start (R152, R153). -/
theorem Placed.starts {s t : State} {k : Chan} {m : Mode} (h : Placed s t k (some m)) : t.starts k = false := by
  have off : ∀ {x}, (t.chan k).Off x → x ≠ .notice → x ≠ .starting → t.starts k = false := fun off waits begins => by
    simp [State.starts, State.isIn, State.chanState, off.state, waits, begins]
  cases m with
  | auto =>
    obtain ⟨rest, -⟩ := h
    split at rest
    · exact off rest.1 (by decide) (by decide)
    · exact off rest.1 (by decide) (by decide)
  | hand => exact off h.1 (by decide) (by decide)
  | off => exact off h.1 (by decide) (by decide)

/-- A mode change of a channel that has a mode (R128, R141 to R143). -/
theorem modeChange_noneBegins {s : State} {k : Chan} (mode : (s.chan k).mode ≠ none) : NoneBegins s (modeChange s k) := by
  obtain ⟨m, formed⟩ := Option.ne_none_iff_exists'.1 mode
  by_cases waits : s.isIn k .notice = true
  · have state : s.chanState k = some .notice := (isIn_iff s k .notice).1 waits
    by_cases auto : m = .auto
    · rw [modeChange_eq s k state (by decide), if_pos ⟨by rw [formed, auto], by decide, by decide⟩]; exact .refl s
    · refine .of_noticeLeft (fun _ => waits) ?_ (fun _ => ?_) fun _ j other => (modeChange_other s other).1
      · rw [modeChange_notice s k state (by simp [formed, auto]), ← dropNotice_arb_eq]; exact (dropNotice_arb s).1
      · have placed := modeChange_placed s k state (by decide) formed (.inl auto)
        exact (Bool.or_eq_false_iff.1 placed.starts).1
  · have still : leaveNotice s k = s := if_neg (by simp [waits])
    by_cases ignored : s.chanState k = none ∨ s.chanState k = some .fault
    · rw [modeChange_ignored s k ignored]; exact .refl s
    · obtain ⟨x, state⟩ := Option.ne_none_iff_exists'.1 (not_or.1 ignored).1
      rw [modeChange_eq s k state fun fault => ignored (.inr (fault ▸ state)), still]
      split
      · exact .refl s
      · exact placeByMode_noneBegins (by simpa using waits)

/-- Every channel whose mode a scan timer expiry of `s` changes has a mode (R137, R139). -/
def ModesFormed (contacts : Quad Contacts) (s u : State) : Prop :=
  ∀ k, modeChanges s contacts k = true → (u.chan k).mode ≠ none

theorem sampled_modesFormed (contacts : Quad Contacts) (s : State) : ModesFormed contacts s (sampled contacts s) := by
  intro k changes
  obtain ⟨fitted, differs⟩ := (modeChanges_iff s contacts k).1 changes
  obtain ⟨-, -, agreed, stored⟩ := takeSample_selector (s.leftOut k) (s.chan k) (readContacts (quadGet contacts k))
  rw [sampled_chan]
  by_cases agrees : (s.chan k).Agrees (readContacts (quadGet contacts k))
  · rw [(agreed agrees (by simp [State.leftOut, fitted])).1]; simp
  · exact absurd (stored (.inl agrees)).1 differs

theorem ModesFormed.taken {contacts : Quad Contacts} {s u : State} (h : ModesFormed contacts s u) (k : Chan) :
    NoneBegins u (takeMode contacts s u k) ∧ ModesFormed contacts s (takeMode contacts s u k) := by
  unfold takeMode; split
  case isFalse => exact ⟨.refl u, h⟩
  case isTrue changes =>
    refine ⟨modeChange_noneBegins (h k changes), fun j other => ?_⟩
    by_cases same : j = k
    · rw [same, (modeChange_selector u k).mode]; exact h k changes
    · rw [(modeChange_other u same).1]; exact h j other

theorem modesTaken_noneBegins (contacts : Quad Contacts) (s : State) : NoneBegins s (modesTaken contacts s) := by
  have samples : NoneBegins s (sampled contacts s) := .of_states rfl fun k => by simp
  exact (forChans_keeps (P := fun u => NoneBegins s u ∧ ModesFormed contacts s u)
    (fun u k ⟨begun, formed⟩ => ⟨begun.trans (formed.taken k).1, (formed.taken k).2⟩) _
    ⟨samples, sampled_modesFormed contacts s⟩).1

end Sys2Proof.Machine
end

section
/-! PROOFS. One start at a time, continued: the request of a start, the entry to JOINING, and the commands of acquisition, line and
dispatch (sections 6.4, 6.6, 7.2 to 7.4 and 8.2). -/
namespace Sys2Proof.Machine

/-! ## What a command does to the own start -/

/-- A channel that starts is fitted and has a mode, so that an entry to JOINING places it (R137, R153). -/
def StartsPlaceable (s : State) : Prop := ∀ k, s.starts k = true → s.fitted k = true ∧ (s.chan k).mode ≠ none

/-- A command keeps one start at a time. -/
def KeepsOneStart (s t : State) : Prop := StartsPlaceable s → OneStartAtATime s → OneStartAtATime t

theorem NoneBegins.keepsOneStart {s t : State} (h : NoneBegins s t) : KeepsOneStart s t := fun _ => h.oneStart

theorem Startless.keepsOneStart {s t : State} (h : Startless t) : KeepsOneStart s t := fun _ _ => h.oneStart

/-- A command that goes on from a state that differs in nothing that is read of it. -/
theorem KeepsOneStart.before {s u t : State} (h : KeepsOneStart u t) (config : u.ctl.config = s.ctl.config)
    (chans : u.chans = s.chans) (arb : u.arb = s.arb) : KeepsOneStart s t := fun placeable one => by
  refine h (fun k => ?_) (NoneBegins.oneStart (.of_frame (by rw [arb]) chans) one)
  have chan : u.chan k = s.chan k := by simp only [State.chan, chans]
  rw [starts_congr chan, fitted_congr config, chan]
  exact placeable k

theorem KeepsOneStart.after {s u t : State} (h : KeepsOneStart s u) (g : NoneBegins u t) : KeepsOneStart s t :=
  fun placeable one => g.oneStart (h placeable one)

/-- The invariants of the start sequence and of the channels make every placed channel placeable (R137, R139). -/
theorem startsPlaceable {s : State} (sequence : StartSequence s) (consistent : ChannelsConsistent s) : StartsPlaceable s := by
  intro k starts
  have placed : s.chanState k ≠ none := by
    rcases (starts_iff s k).1 starts with waits | begins
    · exact chanState_ne_none_of_isIn waits
    · exact chanState_ne_none_of_isIn begins
  have fitted := sequence.fitted k placed
  have inUse : s.leftOut k = false := by simp [State.leftOut, fitted]
  refine ⟨fitted, ?_⟩
  rw [(consistent k).mode, inUse]
  simp

/-! ## The request of a start (R120, R122) -/

/-- A taken request begins the one start: no channel was in NOTICE or STARTING before (R120). -/
theorem noticed_oneStart {s : State} (one : oneStart s = true) (k : Chan) : OneStartAtATime (noticed s k) := by
  have idle := (oneStart_iff s).1 one
  have notice : ∀ j, (noticed s k).isIn j .notice = true ↔ j = k := by
    intro j
    have before : s.isIn j .notice = false := (Bool.or_eq_false_iff.1 (idle j)).1
    simp only [noticed, State.setArb_isIn, moveChan_isIn]
    split <;> simp_all [parked]
  have starts : ∀ j, (noticed s k).starts j = true → j = k := by
    intro j starts
    by_contra other
    have chan : (noticed s k).chan j = s.chan j := by simp [noticed, moveChan_chan, other]
    rw [starts_congr chan, idle j] at starts
    cases starts
  refine (oneStartAtATime_iff _).2 ⟨fun j => ?_, fun i j hi hj => (starts i hi).trans (starts j hj).symm⟩
  rw [notice]
  simp [noticed, noticeOf, Arbiter.named, eq_comm]

theorem startRequest_oneStart {s : State} (h : OneStartAtATime s) (k : Chan) : OneStartAtATime (startRequest s k) := by
  by_cases taken : (oneStart s && guardHolds s && powerHolds s k && s.isIn k .idle) = true
  · simp only [Bool.and_eq_true] at taken
    obtain ⟨⟨⟨one, guarded⟩, power⟩, idle⟩ := taken
    rw [startRequest_taken one guarded power idle]
    have begun := noticed_oneStart one k
    split
    · exact NoneBegins.oneStart (s := noticed s k) (.of_frame rfl rfl) begun
    · exact NoneBegins.oneStart (s := noticed s k) (.of_frame rfl rfl) begun
  · have dropped : startRequest s k = s := if_neg taken
    rw [dropped]; exact h

/-- The decision of a completion: a withdrawal with every stop, one request, one stop, or nothing (R107 to R110). -/
theorem decide4_oneStart {s : State} (h : OneStartAtATime s) : OneStartAtATime (decide4 s) := by
  unfold decide4
  dsimp only
  repeat' split
  · exact ((forChans_noneBegins stopOrder_noneBegins s).trans (withdrawNotice_noneBegins _)).oneStart h
  · exact startRequest_oneStart h _
  · exact h
  · exact h
  · exact h
  · exact (stopOrder_noneBegins s _).oneStart h
  · exact (stopOrder_noneBegins s _).oneStart h
  · exact h

theorem dispatchAct_oneStart {s : State} (h : OneStartAtATime s) : OneStartAtATime (dispatchAct s) := by
  have targeted : ∀ u, NoneBegins u (formNt u) := fun _ => .of_frame (by simp) (by simp)
  exact (targeted _).oneStart ((settle_noneBegins s 0 _).oneStart (decide4_oneStart h))

theorem execAllocationCompletion_keepsOneStart (s : State) : Leads (KeepsOneStart s) (execAllocationCompletion s) := by
  refine ⟨_, rfl, KeepsOneStart.after ?_ (latchesArrive_noneBegins _)⟩
  split
  case h_1 => exact (NoneBegins.refl s).keepsOneStart
  case h_2 x _ =>
    have published : NoneBegins s (publishAllocation s x) := .of_frame rfl rfl
    dsimp only
    split
    · exact fun _ one => dispatchAct_oneStart (published.oneStart one)
    · exact published.keepsOneStart

/-! ## The entry to JOINING (R119, R153) -/

/-- Every channel that could have started is placed, so none starts in JOINING. -/
theorem Joined.startless {s t : State} (h : Joined s t) (placeable : StartsPlaceable s) : Startless t where
  notice := h.notice.1
  starts k := by
    by_cases begins : s.starts k = true
    · obtain ⟨fitted, mode⟩ := placeable k begins
      obtain ⟨m, formed⟩ := Option.ne_none_iff_exists'.1 mode
      have sound : s.chanState k ≠ some .fault := by
        intro fault
        simp [State.starts, State.isIn, fault] at begins
      have placed := h.placed k fitted sound
      rw [formed] at placed
      exact placed.starts
    · by_cases still : s.fitted k = false ∨ s.chanState k = some .fault
      · rw [starts_congr (h.kept k still).1]; simpa using begins
      · obtain ⟨fitted, sound⟩ := not_or.1 still
        have placed := h.placed k (by simpa using fitted) sound
        cases mode : (s.chan k).mode with
        | some m => rw [mode] at placed; exact placed.starts
        | none =>
          rw [mode] at placed
          rw [starts_congr placed.1]; simpa using begins

theorem Joined.keepsOneStart {s t : State} (h : Joined s t) : KeepsOneStart s t :=
  fun placeable _ => (h.startless placeable).oneStart

/-! ## Acquisition and supervision (chapters 1 and 9) -/

theorem execScanTimerExpiry_noneBegins (s : State) (contacts : Quad Contacts) :
    Leads (NoneBegins s) (exec (.scanTimerExpiry contacts) s) := by
  refine ⟨_, scanTimerExpiry_run contacts s, NoneBegins.trans ?_ (latchesArrive_noneBegins _)⟩
  have modes := modesTaken_noneBegins contacts s
  unfold scanTimerTaken scanTimerEnd
  repeat' split
  · exact modes.settled s 0
  · exact modes
  · exact .refl s

theorem judgeLockout_noneBegins (s : State) : NoneBegins s (judgeLockout s) := by
  have stored : ∀ x, NoneBegins s (s.setDisp x) := fun _ => .of_frame rfl rfl
  unfold judgeLockout
  repeat' split
  case isTrue.isTrue => exact stored _
  case isFalse.isTrue =>
    exact ((stored _).trans (forChans_noneBegins dryRunOrder_noneBegins _)).trans (withdrawNotice_noneBegins _)
  all_goals exact .refl s

theorem superviseChan_noneBegins (s : State) (k : Chan) : NoneBegins s (superviseChan s k) := by
  unfold superviseChan offerLatch
  dsimp only
  repeat' split
  case h_1.isFalse => exact (setSup_noneBegins s _).trans (latchFault_noneBegins _ _ _)
  case isFalse => exact .refl s
  all_goals exact setSup_noneBegins s _

theorem execScanCompletion_noneBegins (s : State) : Leads (NoneBegins s) (exec .scanCompletion s) := by
  by_cases scan : s.acq.scan = some 7
  · cases config : s.ctl.config with
    | none => exact ⟨_, scanCompletion_bare s scan config, .of_frame (by simp) (by simp)⟩
    | some c =>
      have formed : NoneBegins s (scanFormed s) := by
        unfold scanFormed; split <;> exact .of_frame (by simp) (by simp)
      have judged : NoneBegins s (scanJudged s) := by
        rw [scanJudged_eq]
        exact (formed.trans (judgeLockout_noneBegins _)).trans (forChans_noneBegins superviseChan_noneBegins _)
      have followed : NoneBegins (scanJudged s) (followRiver (scanJudged s)) := .of_frame (by simp) (by simp)
      exact ⟨_, scanCompletion_with s c scan config, (judged.trans followed).settled _ _⟩
  · exact ⟨s, congrArg Host.Outcome.next (if_neg scan), .refl s⟩

theorem execFaultResetSample_noneBegins (s : State) (active : Bool) :
    Leads (NoneBegins s) (execFaultResetSample active s) := by
  refine ⟨_, rfl, ?_⟩
  split
  · exact .refl s
  · dsimp only
    split
    · exact (setSup_noneBegins s _).trans (clearFaultLatches_noneBegins _)
    · exact setSup_noneBegins s _

/-! ## The line port (chapters 2 and 3) -/

theorem rankStart_noneBegins (s : State) (n : Nat) : NoneBegins s (rankStart s n) := by
  unfold rankStart
  repeat' split
  · exact (withdrawNotice_noneBegins s).settled s 0
  · exact .of_frame rfl rfl
  · exact .refl s

theorem deliver_noneBegins (s : State) (n : Nat) (f : Frame) : NoneBegins s (deliver s n f) := by
  have stored : ∀ m r, NoneBegins s (s.setRecord m r) := fun _ _ => .of_frame rfl rfl
  unfold deliver
  split
  · exact stored _ _
  · exact stored _ _
  · exact (stored _ _).trans (rankStart_noneBegins _ n)

theorem lossesEnd_noneBegins (s : State) (fault : Bool) : NoneBegins s (lossesEnd fault s) := by
  unfold lossesEnd; split
  · exact .of_frame (by simp) (by simp)
  · exact .refl s

theorem receiveFrame_noneBegins (s : State) (f : RxFrame) : NoneBegins s (receiveFrame s f) := by
  have ported : ∀ p, NoneBegins s (s.setPort p) := fun _ => .of_frame rfl rfl
  have bad : ∀ u e, NoneBegins u (countBad u e f) := fun _ _ => .of_frame rfl rfl
  unfold receiveFrame
  dsimp only
  repeat' split
  · exact ((ported _).trans (bad _ _)).trans (lossesEnd_noneBegins _ _)
  · exact .of_frame (by simp) (by simp)
  · exact ((ported _).trans (deliver_noneBegins _ _ _)).trans (lossesEnd_noneBegins _ _)
  · exact .refl s

theorem execContentionLoss_noneBegins (s : State) : Leads (NoneBegins s) (execContentionLoss s) := by
  refine ⟨_, rfl, ?_⟩
  unfold reportReturned
  dsimp only
  repeat' split
  all_goals exact .of_frame (by simp) (by simp)

theorem execListenTimerExpiry_noneBegins (s : State) : Leads (NoneBegins s) (execListenTimerExpiry s) := by
  have ordered : NoneBegins s (orderActive s) := by
    unfold orderActive; split
    · exact .of_frame rfl rfl
    · exact .refl s
  refine ⟨_, rfl, ?_⟩
  split
  · exact ordered.trans (.of_frame (by simp) (by simp))
  · exact .refl s

/-! ## Dispatch and the channels' timers (chapters 6 to 8) -/

theorem execHoldOffExpiry_noneBegins (s : State) : Leads (NoneBegins s) (exec .holdOffExpiry s) := by
  cases notice : s.arb.notice with
  | none => exact ⟨s, by simp [exec, execHoldOffExpiry, notice], .refl s⟩
  | some n =>
    by_cases holds : s.arb.holdOff.isSome = true
    · exact ⟨_, holdOffExpiry_eq notice holds, (rechecked_noneBegins notice).settled s 0⟩
    · exact ⟨s, by simp [exec, execHoldOffExpiry, notice, holds], .refl s⟩

theorem execSlewTimerExpiry_noneBegins (s : State) : Leads (NoneBegins s) (exec .slewTimerExpiry s) := by
  refine ⟨_, slewTimerExpiry_run s, NoneBegins.trans ?_ (latchesArrive_noneBegins _)⟩
  unfold slewTaken; split
  · exact (forChans_noneBegins slewChan_noneBegins s).settled s 0
  · exact .refl s

theorem execStartWindowExpiry_noneBegins (s : State) (k : Chan) : Leads (NoneBegins s) (exec (.startWindowExpiry k) s) := by
  refine ⟨_, startWindowExpiry_run k s, NoneBegins.trans ?_ (latchesArrive_noneBegins _)⟩
  unfold windowTaken; split
  case isFalse => exact .refl s
  case isTrue due =>
    split
    · exact (latchFault_noneBegins s k _).settled s 1
    · exact (moveChan_noneBegins (x := .running) (isIn_other due.1 (by decide)) (by rfl) (by decide)).settled s 0

theorem execRestTimerExpiry_noneBegins (s : State) (k : Chan) : Leads (NoneBegins s) (execRestTimerExpiry k s) := by
  refine ⟨_, rfl, ?_⟩
  split
  case isFalse => exact .refl s
  case isTrue due =>
    exact (moveChan_noneBegins (x := .idle) (isIn_other due.1 (by decide)) (by rfl) (by decide)).settled s 0

end Sys2Proof.Machine
end

section
/-! PROOFS. One start at a time, concluded: the commands of start-up and maintenance port, and every step (O57). -/
namespace Sys2Proof.Machine

/-! ## Start-up (chapter 10) -/

theorem resetBlocks_startless (s : State) (ctl : Controller) (rotation : Option (List Nat)) :
    Startless (resetBlocks s ctl rotation) :=
  ⟨rfl, fun k => by cases k <;> rfl⟩

theorem judgeImage_noneBegins (s : State) (img : List Byte) : NoneBegins s (judgeImage s img) := by
  unfold judgeImage
  split
  · exact .of_frame rfl rfl
  · refine .of_states rfl fun k => ?_
    rw [acceptConfig_chan]
    split <;> rfl

theorem endClockstart_noneBegins (s : State) (straps : Straps) : NoneBegins s (endClockstart s straps) := by
  unfold endClockstart enterConfigLoad
  dsimp only
  split <;> exact .of_frame rfl rfl

theorem muteOrder_noneBegins (s : State) : NoneBegins s (muteOrder s) := .of_frame (by simp) (by simp)

theorem execSerialMemoryReadEnd_noneBegins (s : State) (dataIn : List Bool) :
    Leads (NoneBegins s) (exec (.serialMemoryReadEnd dataIn) s) := by
  by_cases step : s.ctl.step = .configLoad
  · have read : ∀ x, NoneBegins s (imaged s x) := fun _ => .of_frame rfl rfl
    have judged : ∀ u, NoneBegins u (imageJudged u) := fun u => by
      unfold imageJudged; split
      · exact .of_frame rfl rfl
      · exact .refl u
    exact ⟨_, serialMemoryReadEnd_eq s step dataIn, ((read _).trans (judgeImage_noneBegins _ _)).trans (judged _)⟩
  · exact ⟨s, serialMemoryReadEnd_ignored step dataIn, .refl s⟩

theorem execSelftestEnd_keepsOneStart (s : State) (bytes : List RxByte) :
    Leads (KeepsOneStart s) (execSelftestEnd bytes s) := by
  have joined : ∀ x record, KeepsOneStart s (handOver s x record) := fun x record => by
    obtain ⟨-, -, -, -, joined⟩ := handOver_joined s x record
    exact joined.keepsOneStart
  refine ⟨_, rfl, ?_⟩
  split
  case isFalse => exact (NoneBegins.refl s).keepsOneStart
  case isTrue =>
    split
    · exact (NoneBegins.refl s).keepsOneStart
    · exact joined _ _
    · exact joined _ _

/-! ## The maintenance port (chapter 11) -/

theorem respond_noneBegins (s : State) (r : Response) : NoneBegins s (respond s r) := .of_frame rfl rfl

theorem doLeave_noneBegins (s : State) : NoneBegins s (doLeave s) := by
  unfold doLeave; split
  · exact NoneBegins.trans (.of_frame (by simp) (by simp)) (respond_noneBegins _ _)
  · exact respond_noneBegins s _

theorem doRejoin_keepsOneStart (s : State) : KeepsOneStart s (doRejoin s) := by
  by_cases inLeft : s.sched.coord = some .left
  · have rejoined : doRejoin s = respond (enterJoining (recalled s)) .ok := if_pos inLeft
    rw [rejoined]
    exact (rejoin_joined s inLeft).1.keepsOneStart
  · have refused : doRejoin s = respondErr s .errState := if_neg inLeft
    rw [refused]
    exact (respond_noneBegins s _).keepsOneStart

theorem doLoadEnd_noneBegins (s : State) : NoneBegins s (doLoadEnd s) := by
  unfold doLoadEnd
  dsimp only
  repeat' split
  · exact respond_noneBegins s _
  all_goals exact (judgeImage_noneBegins s _).trans (respond_noneBegins _ _)

theorem execute_keepsOneStart (s : State) (r : Request) : KeepsOneStart s (execute s r) := by
  have answered : ∀ x, KeepsOneStart s (respond s x) := fun x => (respond_noneBegins s x).keepsOneStart
  cases r with
  | status | line | cause => exact answered _
  | view n =>
    unfold execute doView; dsimp only
    split <;> exact answered _
  | pump k =>
    unfold execute doPump; dsimp only
    split <;> exact answered _
  | clearFaults => exact ((clearFaultLatches_noneBegins s).trans (respond_noneBegins _ _)).keepsOneStart
  | clearLine => exact NoneBegins.keepsOneStart (.of_frame rfl rfl)
  | leave => exact (doLeave_noneBegins s).keepsOneStart
  | rejoin => exact doRejoin_keepsOneStart s
  | load offset bytes =>
    unfold execute doLoad; dsimp only
    repeat' split
    all_goals exact NoneBegins.keepsOneStart (.of_frame rfl rfl)
  | loadEnd => exact (doLoadEnd_noneBegins s).keepsOneStart

theorem executeLine_keepsOneStart (s : State) (l : CompletedLine) : KeepsOneStart s (executeLine s l) := by
  unfold executeLine; split
  · exact (respond_noneBegins s _).keepsOneStart
  · exact execute_keepsOneStart s _

theorem submitLine_keepsOneStart (s : State) (l : CompletedLine) : KeepsOneStart s (submitLine s l) := by
  unfold submitLine; split
  · exact NoneBegins.keepsOneStart (.of_frame rfl rfl)
  · exact executeLine_keepsOneStart s l

theorem submitRequest_keepsOneStart (s : State) (r : Request) : Leads (KeepsOneStart s) (.next (submitRequest s r)) := by
  refine ⟨_, rfl, ?_⟩
  unfold submitRequest; split
  · exact submitLine_keepsOneStart s _
  · exact (NoneBegins.refl s).keepsOneStart

theorem completeLine_keepsOneStart (s : State) : KeepsOneStart s (completeLine s) := by
  unfold completeLine
  dsimp only
  split
  · exact NoneBegins.keepsOneStart (.of_frame rfl rfl)
  · exact (submitLine_keepsOneStart _ _).before rfl rfl rfl

theorem execCharacterReceived_keepsOneStart (s : State) (c : Byte) (stopLow : Bool) :
    Leads (KeepsOneStart s) (execCharacterReceived c stopLow s) := by
  obtain ⟨x, marked⟩ : ∃ x, (if stopLow then markBad s else s) = s.setMaint x := by
    split
    · exact ⟨_, rfl⟩
    · exact ⟨s.maint, rfl⟩
  have stored : ∀ y, KeepsOneStart s (s.setMaint y) := fun _ => NoneBegins.keepsOneStart (.of_frame rfl rfl)
  refine ⟨_, rfl, ?_⟩
  rw [marked]
  unfold appendChar
  dsimp only
  repeat' split
  · exact (completeLine_keepsOneStart (s.setMaint x)).before rfl rfl rfl
  · exact stored x
  · exact stored _
  · exact stored _
  · exact (NoneBegins.refl s).keepsOneStart

theorem execResponseEnd_keepsOneStart (s : State) : Leads (KeepsOneStart s) (execResponseEnd s) := by
  refine ⟨_, rfl, ?_⟩
  dsimp only
  repeat' split
  · exact (executeLine_keepsOneStart _ _).before rfl rfl rfl
  · exact NoneBegins.keepsOneStart (.of_frame rfl rfl)
  · exact (NoneBegins.refl s).keepsOneStart

/-! ## Every command and every step -/

/-- A command that begins no start keeps one start at a time. -/
theorem Leads.keepsOneStart {s : State} {o : Host.Outcome State Fault Refusal} (h : Leads (NoneBegins s) o) :
    Leads (KeepsOneStart s) o := by
  obtain ⟨t, run, kept⟩ := h
  exact ⟨t, run, kept.keepsOneStart⟩

theorem exec_keepsOneStart (i : Instr) (s : State) : Leads (KeepsOneStart s) (exec i s) := by
  have clocked : ∀ x, NoneBegins s (s.setCtl x) := fun _ => .of_frame rfl rfl
  cases i with
  | powerOn | externalReset => exact ⟨_, rfl, (resetBlocks_startless _ _ _).keepsOneStart⟩
  | brownOut =>
    refine ⟨_, rfl, ?_⟩
    split
    · exact (NoneBegins.refl s).keepsOneStart
    · exact (resetBlocks_startless _ _ _).keepsOneStart
  | resetRelease | powerUpDelayExpiry | brownOutEnd | conversionEnd input current | receiverSync | lineFaultTimerExpiry stuck
  | secondsTick | ageingTimerExpiry =>
    refine Leads.keepsOneStart ⟨_, rfl, ?_⟩
    dsimp only
    repeat' split
    all_goals exact .of_frame rfl rfl
  | crystalStart straps =>
    refine Leads.keepsOneStart ⟨_, rfl, ?_⟩
    split
    · exact (clocked _).trans (endClockstart_noneBegins _ _)
    · exact .refl s
  | clockStartWindowExpiry straps =>
    refine Leads.keepsOneStart ⟨_, rfl, ?_⟩
    split
    · exact ((clocked _).trans (muteOrder_noneBegins _)).trans (endClockstart_noneBegins _ _)
    · exact .refl s
  | clockMonitorFallback =>
    refine Leads.keepsOneStart ⟨_, rfl, ?_⟩
    split
    · exact (clocked _).trans (muteOrder_noneBegins _)
    · exact .refl s
  | driveFailure f | stuckLine f | reportTimerExpiry | allocationTimerExpiry =>
    refine Leads.keepsOneStart ⟨_, rfl, ?_⟩
    repeat' split
    all_goals exact .of_frame (by simp) (by simp)
  | spacingTimerExpiry =>
    refine Leads.keepsOneStart ⟨_, rfl, ?_⟩
    dsimp only
    repeat' split
    all_goals exact .of_frame (by simp) (by simp)
  | slotStart idle dominant =>
    refine Leads.keepsOneStart ⟨_, rfl, ?_⟩
    unfold beginFrame
    repeat' split
    all_goals exact .of_frame (by simp) (by simp)
  | transmissionComplete =>
    refine Leads.keepsOneStart ⟨_, rfl, ?_⟩
    unfold stageCompleted
    dsimp only
    repeat' split
    all_goals exact .of_frame (by simp) (by simp)
  | serialMemoryReadEnd dataIn => exact (execSerialMemoryReadEnd_noneBegins s dataIn).keepsOneStart
  | selftestEnd bytes => exact execSelftestEnd_keepsOneStart s bytes
  | scanTimerExpiry contacts => exact (execScanTimerExpiry_noneBegins s contacts).keepsOneStart
  | scanCompletion => exact (execScanCompletion_noneBegins s).keepsOneStart
  | faultResetSample active => exact (execFaultResetSample_noneBegins s active).keepsOneStart
  | listenTimerExpiry => exact (execListenTimerExpiry_noneBegins s).keepsOneStart
  | contentionLoss => exact (execContentionLoss_noneBegins s).keepsOneStart
  | stageReportReceived f | startNoticeReceived f | quitNoticeReceived f | badFrame f =>
    exact ⟨_, rfl, (receiveFrame_noneBegins s f).keepsOneStart⟩
  | allocationCompletion => exact execAllocationCompletion_keepsOneStart s
  | holdOffExpiry => exact (execHoldOffExpiry_noneBegins s).keepsOneStart
  | slewTimerExpiry => exact (execSlewTimerExpiry_noneBegins s).keepsOneStart
  | startWindowExpiry k => exact (execStartWindowExpiry_noneBegins s k).keepsOneStart
  | restTimerExpiry k => exact (execRestTimerExpiry_noneBegins s k).keepsOneStart
  | characterReceived c stopLow => exact execCharacterReceived_keepsOneStart s c stopLow
  | responseEnd => exact execResponseEnd_keepsOneStart s
  | status | view n | pump k | line | cause | clearFaults | clearLine | leave | rejoin | load offset bytes | loadEnd =>
    exact submitRequest_keepsOneStart s _

theorem step_keepsOneStart {s t : State} (next : step s = .next t) : KeepsOneStart s t := by
  unfold step at next
  split at next
  · cases next; exact (NoneBegins.refl s).keepsOneStart
  case h_2 c rest _ =>
    obtain ⟨u, run, kept⟩ := exec_keepsOneStart c { s with pending := rest }
    obtain rfl : u = t := Host.Outcome.next.inj (run.symm.trans next)
    exact kept.before rfl rfl rfl

/-- Settles O57: only a taken request begins a start, and it asks that none has begun (`startRequest_oneStart`); every other move
begins none (`NoneBegins`), and an entry to JOINING leaves none (`Joined.startless`). -/
theorem everyStepStartsOnePumpAtATime : Obligations.EveryStepStartsOnePumpAtATime := fun _ _ sequence consistent one next =>
  step_keepsOneStart next (startsPlaceable sequence consistent) one

end Sys2Proof.Machine
end

section
/-! PROOFS. Each channel consistent with its state: what the moves of one channel, the mode changes, the latches, the own notice and
the entry to JOINING keep of it (sections 8.1 to 8.6). -/
namespace Sys2Proof.Machine

/-! ## One channel (R137, R139, R140, R144, R147) -/

section
variable {leftOut : Bool} {c d : Channel} (h : c.Consistent leftOut)
include h

/-- A channel that has entered a state with the outputs and timers of that state, its selector as it was. -/
theorem Channel.Consistent.entered {x : ChanState} (same : SameSelector c d) (state : d.state = some x) (run : d.run = x.turns)
    (reference : x.turns = false → d.reference = 0) (window : d.window.isSome = (x == .starting))
    (rest : d.rest.isSome = (x == .resting)) : d.Consistent leftOut where
  run := by rw [run, state]; rfl
  reference off := reference (run.symm.trans off)
  window := by rw [window, state]; simp
  rest := by rw [rest, state]; simp
  mode := by rw [same.mode, same.combination]; exact h.mode
  selector := by rw [same.selector, same.combination]; exact h.selector

/-- A channel put into a state without outputs and without a rest (R140). -/
theorem parked_consistent {x : ChanState} (still : x.turns = false) (awake : x ≠ .resting) : (parked c x).Consistent leftOut := by
  have calm : x ≠ .starting := by rintro rfl; cases still
  exact h.entered ⟨rfl, rfl, rfl, rfl, rfl⟩ rfl still.symm (fun _ => rfl) (by simp [parked, calm]) (by simp [parked, awake])

/-- A channel whose rest begins (R144). -/
theorem rested_consistent (ms : Nat) : { parked c .resting with rest := some ms }.Consistent leftOut :=
  h.entered ⟨rfl, rfl, rfl, rfl, rfl⟩ rfl rfl (fun _ => rfl) rfl rfl

/-- A channel that is started (R147). -/
theorem started_consistent (n ms : Nat) : { c with
    state := some .starting, run := true, reference := n, window := some ms, rest := none }.Consistent leftOut :=
  h.entered ⟨rfl, rfl, rfl, rfl, rfl⟩ rfl rfl (fun off => nomatch off) rfl rfl

/-- A turning channel whose start window, if any, is over: it turns on, and has no rest (R148, R149). -/
theorem windowOver_consistent {x y : ChanState} (state : c.state = some x) (turned : x.turns = true) (turns : y.turns = true)
    (past : y ≠ .starting) : { c with state := some y, window := none }.Consistent leftOut := by
  have awake : c.rest = none := by
    have unrested : c.state ≠ some .resting := by
      rw [state]; intro resting; cases resting; cases turned
    simpa using (not_congr h.rest).2 unrested
  have wake : y ≠ .resting := by rintro rfl; cases turns
  refine h.entered ⟨rfl, rfl, rfl, rfl, rfl⟩ rfl ?_ (fun off => ?_) (by simp [past]) (by simp [awake, wake])
  · rw [turns]; simp [h.run, state, turned]
  · rw [turns] at off; cases off

/-- A turning channel may have any reference (R112, R140). -/
theorem reference_consistent {x : ChanState} (state : c.state = some x) (turns : x.turns = true) (n : Nat) :
    { c with reference := n }.Consistent leftOut where
  run := h.run
  reference off := by simp [h.run, state, turns] at off
  window := h.window
  rest := h.rest
  mode := h.mode
  selector := h.selector

/-- A sample that forms a combination forms mode and flag with it, unless the channel is left out (R137 to R139). -/
theorem takeSample_consistent (x : Combination) : (takeSample leftOut c x).Consistent leftOut where
  run := by simpa using h.run
  reference := by simpa using h.reference
  window := by simpa using h.window
  rest := by simpa using h.rest
  mode := by
    by_cases agrees : c.Agrees x
    · rw [takeSample_agreed _ agrees]
      cases out : leftOut with
      | true => simpa [out] using h.mode
      | false => simp
    · rw [takeSample_stored _ agrees]; exact h.mode
  selector := by
    by_cases agrees : c.Agrees x
    · rw [takeSample_agreed _ agrees]
      cases out : leftOut with
      | true => simpa [out] using h.selector
      | false => simp
    · rw [takeSample_stored _ agrees]; exact h.selector

/-- A channel that an acceptance leaves out loses mode and flag (R137). -/
theorem unfitted_consistent : { c with mode := none, selector := false }.Consistent true :=
  ⟨h.run, h.reference, h.window, h.rest, rfl, rfl⟩

end

/-! ## What an operation keeps -/

/-- From `s` to `t` the configuration stands, and every channel is as consistent as it was. -/
structure ConsistencyKept (s t : State) : Prop where
  config : t.ctl.config = s.ctl.config
  chans  : ChannelsConsistent s → ChannelsConsistent t

theorem ConsistencyKept.refl (s : State) : ConsistencyKept s s := ⟨rfl, id⟩

theorem ConsistencyKept.trans {s t u : State} (h : ConsistencyKept s t) (g : ConsistencyKept t u) : ConsistencyKept s u :=
  ⟨g.config.trans h.config, g.chans ∘ h.chans⟩

theorem leftOut_congr {s t : State} (config : t.ctl.config = s.ctl.config) (k : Chan) : t.leftOut k = s.leftOut k := by
  simp only [State.leftOut, config, fitted_congr config]

section
variable {s t : State} (config : t.ctl.config = s.ctl.config)
include config

theorem ConsistencyKept.of_each
    (each : ∀ k, (s.chan k).Consistent (s.leftOut k) → (t.chan k).Consistent (s.leftOut k)) : ConsistencyKept s t :=
  ⟨config, fun consistent k => by rw [leftOut_congr config]; exact each k (consistent k)⟩

/-- What touches neither configuration nor channels. -/
theorem ConsistencyKept.of_frame (chans : t.chans = s.chans) : ConsistencyKept s t :=
  .of_each config fun k => by simp only [State.chan, chans]; exact id

end

/-- The end of an event moves no channel. -/
theorem ConsistencyKept.settled {s t : State} (h : ConsistencyKept s t) (s0 : State) (n : Nat) :
    ConsistencyKept s (settle s0 n t) :=
  h.trans (.of_frame (by simp) (by simp))

/-- What the move of each channel keeps, the moves of all four keep. -/
theorem forChans_consistencyKept {f : State → Chan → State} (h : ∀ s k, ConsistencyKept s (f s k)) (s : State) :
    ConsistencyKept s (forChans f s) :=
  forChans_keeps (P := ConsistencyKept s) (fun u k hu => hu.trans (h u k)) s (.refl s)

/-! ## Channel moves (chapter 8) -/

theorem setChan_consistencyKept {s : State} {k : Chan} {c : Channel}
    (move : (s.chan k).Consistent (s.leftOut k) → c.Consistent (s.leftOut k)) : ConsistencyKept s (s.setChan k c) := by
  refine .of_each rfl fun j => ?_
  rw [State.setChan_chan]
  split
  case isTrue same => subst same; exact move
  case isFalse => exact id

theorem moveChan_consistencyKept {s : State} {k : Chan} {c : Channel}
    (move : (s.chan k).Consistent (s.leftOut k) → c.Consistent (s.leftOut k)) : ConsistencyKept s (moveChan s k c) :=
  (setChan_consistencyKept move).trans (.of_frame rfl rfl)

/-- A channel parked in one of the states without outputs and without a rest. -/
theorem moveChan_parked_consistencyKept (s : State) (k : Chan) {x : ChanState} (still : x.turns = false) (awake : x ≠ .resting) :
    ConsistencyKept s (moveChan s k (parked (s.chan k) x)) :=
  moveChan_consistencyKept fun h => parked_consistent h still awake

theorem enterResting_consistencyKept (s : State) (k : Chan) : ConsistencyKept s (enterResting s k) := by
  unfold enterResting; split
  · exact moveChan_parked_consistencyKept s k rfl (by decide)
  · exact moveChan_consistencyKept fun h => rested_consistent h _

theorem placeByMode_consistencyKept (s : State) (k : Chan) : ConsistencyKept s (placeByMode s k) := by
  unfold placeByMode; split
  · exact enterResting_consistencyKept s k
  · exact moveChan_parked_consistencyKept s k rfl (by decide)
  · exact moveChan_parked_consistencyKept s k rfl (by decide)
  · exact .refl s

theorem stopOrder_consistencyKept (s : State) (k : Chan) : ConsistencyKept s (stopOrder s k) := by
  unfold stopOrder; split
  case isTrue inR =>
    refine moveChan_consistencyKept fun h => ?_
    rcases Bool.or_eq_true_iff.1 inR with starting | running
    · exact windowOver_consistent h ((isIn_iff ..).1 starting) rfl rfl (by decide)
    · exact windowOver_consistent h ((isIn_iff ..).1 running) rfl rfl (by decide)
  case isFalse => exact .refl s

theorem dryRunOrder_consistencyKept (s : State) (k : Chan) : ConsistencyKept s (dryRunOrder s k) := by
  unfold dryRunOrder; split
  · exact enterResting_consistencyKept s k
  · exact .refl s

theorem backToIdle_consistencyKept (s : State) (k : Chan) : ConsistencyKept s (backToIdle s k) := by
  unfold backToIdle; split
  · exact moveChan_parked_consistencyKept s k rfl (by decide)
  · exact .refl s

theorem startOrder_consistencyKept (s : State) (k : Chan) : ConsistencyKept s (startOrder s k) := by
  unfold startOrder; split
  · exact (moveChan_consistencyKept fun h => started_consistent h _ _).trans (.of_frame rfl rfl)
  · exact .refl s

theorem slewChan_consistencyKept (s : State) (k : Chan) : ConsistencyKept s (slewChan s k) := by
  unfold slewChan
  dsimp only
  split
  case h_1 running =>
    split
    · exact setChan_consistencyKept fun h => reference_consistent h running rfl _
    · exact .refl s
  case h_2 starting => exact setChan_consistencyKept fun h => reference_consistent h starting rfl _
  case h_3 stopping =>
    split
    · exact enterResting_consistencyKept s k
    · exact setChan_consistencyKept fun h => reference_consistent h stopping rfl _
  case h_4 => exact .refl s

theorem startEnds_consistencyKept {s : State} {k : Chan} (starting : s.isIn k .starting = true) :
    ConsistencyKept s (moveChan s k { s.chan k with state := some .running, window := none }) :=
  moveChan_consistencyKept fun h => windowOver_consistent h ((isIn_iff ..).1 starting) rfl rfl (by decide)

/-! ## Latches and their clear (chapter 9) -/

theorem setSup_consistencyKept (s : State) (x : Supervision) : ConsistencyKept s (s.setSup x) := .of_frame rfl rfl

theorem latchFault_consistencyKept (s : State) (k : Chan) (kind : FaultKind) : ConsistencyKept s (latchFault s k kind) := by
  unfold latchFault; split
  · exact (setSup_consistencyKept s _).trans (moveChan_parked_consistencyKept _ k rfl (by decide))
  · exact setSup_consistencyKept s _

theorem latchesArrive_consistencyKept (s : State) : ConsistencyKept s (latchesArrive s) := by
  have arrive : ∀ u k, ConsistencyKept u (latchArrives u k) := fun u k => by
    unfold latchArrives; split
    · exact latchFault_consistencyKept u k _
    · exact .refl u
  unfold latchesArrive; split
  · exact .refl s
  · exact ((forChans_consistencyKept arrive s).trans (setSup_consistencyKept _ _)).settled _ _

theorem clearFaultLatches_consistencyKept (s : State) : ConsistencyKept s (clearFaultLatches s) := by
  have left : ∀ u k, ConsistencyKept u (leaveFault u k) := fun u k => by
    unfold leaveFault; split
    · exact placeByMode_consistencyKept u k
    · exact .refl u
  have reset : ConsistencyKept s (watchesReset s) := setSup_consistencyKept s _
  have cleared : ConsistencyKept s (faultsCleared s) := by
    unfold faultsCleared; split
    · exact (reset.trans (forChans_consistencyKept left _)).settled _ 0
    · exact reset
  exact cleared.trans (latchesArrive_consistencyKept _)

/-! ## Mode changes (R138, R141 to R143) -/

theorem modeChange_consistencyKept (s : State) (k : Chan) : ConsistencyKept s (modeChange s k) := by
  by_cases ignored : s.chanState k = none ∨ s.chanState k = some .fault
  · rw [modeChange_ignored s k ignored]; exact .refl s
  obtain ⟨x, state⟩ := Option.ne_none_iff_exists'.1 (not_or.1 ignored).1
  have left : ConsistencyKept s (leaveNotice s k) := by
    unfold leaveNotice; split
    · exact .of_frame (by simp) (by simp)
    · exact .refl s
  rw [modeChange_eq s k state fun fault => ignored (.inr (fault ▸ state))]
  split
  · exact .refl s
  · exact left.trans (placeByMode_consistencyKept _ k)

theorem modesTaken_consistencyKept (contacts : Quad Contacts) (s : State) : ConsistencyKept s (modesTaken contacts s) := by
  have samples : ConsistencyKept s (sampled contacts s) :=
    .of_each rfl fun k h => by rw [sampled_chan]; exact takeSample_consistent h _
  refine samples.trans (forChans_consistencyKept (fun u k => ?_) _)
  unfold takeMode; split
  · exact modeChange_consistencyKept u k
  · exact .refl u

/-! ## The own notice (R119, R122, R128, R129) -/

theorem withdrawNotice_consistencyKept (s : State) : ConsistencyKept s (withdrawNotice s) := by
  unfold withdrawNotice; split
  · exact ConsistencyKept.trans (.of_frame (by simp) (by simp)) (backToIdle_consistencyKept _ _)
  · exact .refl s

theorem startRequest_consistencyKept (s : State) (k : Chan) : ConsistencyKept s (startRequest s k) := by
  unfold startRequest
  dsimp only
  split
  case isFalse => exact .refl s
  case isTrue =>
    have moved : ConsistencyKept s (moveChan s k (parked (s.chan k) .notice)) :=
      moveChan_parked_consistencyKept s k rfl (by decide)
    split
    · exact moved.trans (.of_frame rfl rfl)
    · exact moved.trans (.of_frame (by simp) (by simp))

theorem rechecked_consistencyKept (s : State) (k : Chan) : ConsistencyKept s (rechecked s k) := by
  have done : ConsistencyKept s (noticeDone s) := .of_frame rfl rfl
  unfold rechecked; split
  · exact done.trans (startOrder_consistencyKept _ k)
  · exact done.trans (backToIdle_consistencyKept _ k)

/-! ## The entry to JOINING (R119, R153) -/

theorem enterJoining_consistencyKept (s : State) : ConsistencyKept s (enterJoining s) := by
  have marked : ConsistencyKept s (joining s) := .of_frame (by simp [joining]) (by simp [joining])
  have place : ∀ u k, ConsistencyKept u (placeAtJoining u k) := fun u k => by
    unfold placeAtJoining; split
    · exact placeByMode_consistencyKept u k
    · exact .refl u
  rw [enterJoining_eq]
  exact (marked.trans (forChans_consistencyKept place _)).settled s 0

end Sys2Proof.Machine
end

section
/-! PROOFS. Each channel consistent with its state, concluded: the commands, the acceptance of a configuration, and every step
(O56). -/
namespace Sys2Proof.Machine

/-! ## Acquisition, supervision and the line port (chapters 1, 2, 3 and 9) -/

theorem execScanTimerExpiry_consistencyKept (s : State) (contacts : Quad Contacts) :
    Leads (ConsistencyKept s) (exec (.scanTimerExpiry contacts) s) := by
  refine ⟨_, scanTimerExpiry_run contacts s, ConsistencyKept.trans ?_ (latchesArrive_consistencyKept _)⟩
  have modes := modesTaken_consistencyKept contacts s
  unfold scanTimerTaken scanTimerEnd
  repeat' split
  · exact modes.settled s 0
  · exact modes
  · exact .refl s

theorem judgeLockout_consistencyKept (s : State) : ConsistencyKept s (judgeLockout s) := by
  have stored : ∀ x, ConsistencyKept s (s.setDisp x) := fun _ => .of_frame rfl rfl
  unfold judgeLockout
  repeat' split
  case isTrue.isTrue => exact stored _
  case isFalse.isTrue =>
    exact ((stored _).trans (forChans_consistencyKept dryRunOrder_consistencyKept _)).trans (withdrawNotice_consistencyKept _)
  all_goals exact .refl s

theorem superviseChan_consistencyKept (s : State) (k : Chan) : ConsistencyKept s (superviseChan s k) := by
  unfold superviseChan offerLatch
  dsimp only
  repeat' split
  case h_1.isFalse => exact (setSup_consistencyKept s _).trans (latchFault_consistencyKept _ _ _)
  case isFalse => exact .refl s
  all_goals exact setSup_consistencyKept s _

theorem execScanCompletion_consistencyKept (s : State) : Leads (ConsistencyKept s) (exec .scanCompletion s) := by
  by_cases scan : s.acq.scan = some 7
  · cases config : s.ctl.config with
    | none => exact ⟨_, scanCompletion_bare s scan config, .of_frame (by simp) (by simp)⟩
    | some c =>
      have formed : ConsistencyKept s (scanFormed s) := by
        unfold scanFormed; split <;> exact .of_frame (by simp) (by simp)
      have judged : ConsistencyKept s (scanJudged s) := by
        rw [scanJudged_eq]
        exact (formed.trans (judgeLockout_consistencyKept _)).trans (forChans_consistencyKept superviseChan_consistencyKept _)
      have followed : ConsistencyKept (scanJudged s) (followRiver (scanJudged s)) := .of_frame (by simp) (by simp)
      exact ⟨_, scanCompletion_with s c scan config, (judged.trans followed).settled _ _⟩
  · exact ⟨s, congrArg Host.Outcome.next (if_neg scan), .refl s⟩

theorem execFaultResetSample_consistencyKept (s : State) (active : Bool) :
    Leads (ConsistencyKept s) (execFaultResetSample active s) := by
  refine ⟨_, rfl, ?_⟩
  split
  · exact .refl s
  · dsimp only
    split
    · exact (setSup_consistencyKept s _).trans (clearFaultLatches_consistencyKept _)
    · exact setSup_consistencyKept s _

theorem rankStart_consistencyKept (s : State) (n : Nat) : ConsistencyKept s (rankStart s n) := by
  unfold rankStart
  repeat' split
  · exact (withdrawNotice_consistencyKept s).settled s 0
  · exact .of_frame rfl rfl
  · exact .refl s

theorem deliver_consistencyKept (s : State) (n : Nat) (f : Frame) : ConsistencyKept s (deliver s n f) := by
  have stored : ∀ m r, ConsistencyKept s (s.setRecord m r) := fun _ _ => .of_frame rfl rfl
  unfold deliver
  split
  · exact stored _ _
  · exact stored _ _
  · exact (stored _ _).trans (rankStart_consistencyKept _ n)

theorem receiveFrame_consistencyKept (s : State) (f : RxFrame) : ConsistencyKept s (receiveFrame s f) := by
  have ported : ∀ p, ConsistencyKept s (s.setPort p) := fun _ => .of_frame rfl rfl
  have ended : ∀ fault u, ConsistencyKept u (lossesEnd fault u) := fun fault u => by
    unfold lossesEnd; split
    · exact .of_frame (by simp) (by simp)
    · exact .refl u
  unfold receiveFrame
  dsimp only
  repeat' split
  · exact ConsistencyKept.trans (.of_frame (by simp) (by simp)) (ended _ _)
  · exact .of_frame (by simp) (by simp)
  · exact ((ported _).trans (deliver_consistencyKept _ _ _)).trans (ended _ _)
  · exact .refl s

@[simp] theorem beginFrame_frame (s : State) (f : Frame) :
    (beginFrame s f).ctl = s.ctl ∧ (beginFrame s f).chans = s.chans := by
  unfold beginFrame; dsimp only; split <;> simp

@[simp] theorem reportReturned_frame (s : State) (f : Frame) :
    (reportReturned s f).ctl = s.ctl ∧ (reportReturned s f).chans = s.chans := by
  unfold reportReturned; split <;> simp

@[simp] theorem stageCompleted_frame (s : State) (p : StagePayload) :
    (stageCompleted s p).ctl = s.ctl ∧ (stageCompleted s p).chans = s.chans := ⟨rfl, rfl⟩

@[simp] theorem orderActive_frame (s : State) : (orderActive s).ctl = s.ctl ∧ (orderActive s).chans = s.chans := by
  unfold orderActive; split <;> simp

/-! ## Dispatch and the channels' timers (chapters 6 to 8) -/

/-- The decision of a completion: a withdrawal with every stop, one request, one stop, or nothing (R107 to R110). -/
theorem decide4_consistencyKept (s : State) : ConsistencyKept s (decide4 s) := by
  unfold decide4
  dsimp only
  repeat' split
  · exact (forChans_consistencyKept stopOrder_consistencyKept s).trans (withdrawNotice_consistencyKept _)
  · exact startRequest_consistencyKept s _
  · exact .refl s
  · exact .refl s
  · exact .refl s
  · exact stopOrder_consistencyKept s _
  · exact stopOrder_consistencyKept s _
  · exact .refl s

theorem execAllocationCompletion_consistencyKept (s : State) :
    Leads (ConsistencyKept s) (exec .allocationCompletion s) := by
  have published : ∀ x, ConsistencyKept s (publishAllocation s x) := fun _ => .of_frame rfl rfl
  have decided : ∀ u, ConsistencyKept u (dispatchAct u) := fun u =>
    ((decide4_consistencyKept u).settled u 0).trans (.of_frame (by simp [dispatchAct]) (by simp [dispatchAct]))
  refine ⟨_, allocationCompletion_run s, ConsistencyKept.trans ?_ (latchesArrive_consistencyKept _)⟩
  unfold completionTaken
  repeat' split
  · exact .refl s
  · exact (published _).trans (decided _)
  · exact published _

theorem execHoldOffExpiry_consistencyKept (s : State) : Leads (ConsistencyKept s) (exec .holdOffExpiry s) := by
  cases notice : s.arb.notice with
  | none => exact ⟨s, by simp [exec, execHoldOffExpiry, notice], .refl s⟩
  | some n =>
    by_cases holds : s.arb.holdOff.isSome = true
    · exact ⟨_, holdOffExpiry_eq notice holds, (rechecked_consistencyKept s _).settled s 0⟩
    · exact ⟨s, by simp [exec, execHoldOffExpiry, notice, holds], .refl s⟩

theorem execSlewTimerExpiry_consistencyKept (s : State) : Leads (ConsistencyKept s) (exec .slewTimerExpiry s) := by
  refine ⟨_, slewTimerExpiry_run s, ConsistencyKept.trans ?_ (latchesArrive_consistencyKept _)⟩
  unfold slewTaken; split
  · exact (forChans_consistencyKept slewChan_consistencyKept s).settled s 0
  · exact .refl s

theorem execStartWindowExpiry_consistencyKept (s : State) (k : Chan) :
    Leads (ConsistencyKept s) (exec (.startWindowExpiry k) s) := by
  refine ⟨_, startWindowExpiry_run k s, ConsistencyKept.trans ?_ (latchesArrive_consistencyKept _)⟩
  unfold windowTaken; split
  case isFalse => exact .refl s
  case isTrue due =>
    split
    · exact (latchFault_consistencyKept s k _).settled s 1
    · exact (startEnds_consistencyKept due.1).settled s 0

theorem execRestTimerExpiry_consistencyKept (s : State) (k : Chan) :
    Leads (ConsistencyKept s) (execRestTimerExpiry k s) := by
  refine ⟨_, rfl, ?_⟩
  split
  · exact (moveChan_parked_consistencyKept s k rfl (by decide)).settled s 0
  · exact .refl s

/-! ## What a command does to the channels -/

/-- While an image may be judged no configuration is accepted (R169, R178). -/
def AwaitsImage (s : State) : Prop := s.ctl.step = .configLoad ∨ s.ctl.step = .configWait → s.ctl.config = none

theorem StartSequence.awaitsImage {s : State} (h : StartSequence s) : AwaitsImage s := by
  rintro (load | wait)
  · exact (h.before (by simp [load]) (by simp [load])).2
  · exact (h.before (by simp [wait]) (by simp [wait])).2

/-- A command keeps the channels consistent. -/
def KeepsConsistent (s t : State) : Prop := AwaitsImage s → ChannelsConsistent s → ChannelsConsistent t

theorem ConsistencyKept.keepsConsistent {s t : State} (h : ConsistencyKept s t) : KeepsConsistent s t := fun _ => h.chans

theorem KeepsConsistent.refl (s : State) : KeepsConsistent s s := fun _ => id

/-- A command that goes on from a state that differs in nothing that is read of it. -/
theorem KeepsConsistent.before {s u t : State} (h : KeepsConsistent u t) (step : u.ctl.step = s.ctl.step)
    (config : u.ctl.config = s.ctl.config) (chans : u.chans = s.chans) : KeepsConsistent s t := fun awaits consistent => by
  refine h ?_ ((ConsistencyKept.of_frame config chans).chans consistent)
  unfold AwaitsImage
  rw [step, config]
  exact awaits

theorem KeepsConsistent.after {s u t : State} (h : KeepsConsistent s u) (g : ConsistencyKept u t) : KeepsConsistent s t :=
  fun awaits consistent => g.chans (h awaits consistent)

/-- A command that keeps the channels consistent from every state does so from one that awaits an image. -/
theorem Leads.keepsConsistent {s : State} {o : Host.Outcome State Fault Refusal} (h : Leads (ConsistencyKept s) o) :
    Leads (KeepsConsistent s) o := by
  obtain ⟨t, run, kept⟩ := h
  exact ⟨t, run, kept.keepsConsistent⟩

/-! ## Start-up and the acceptance (chapter 10) -/

/-- After a reset every channel is at its reset value, and none is left out (R137). -/
theorem resetBlocks_consistent (s : State) {ctl : Controller} (rotation : Option (List Nat)) (config : ctl.config = none) :
    ChannelsConsistent (resetBlocks s ctl rotation) := by
  intro k
  have chan : (resetBlocks s ctl rotation).chan k = .reset := by cases k <;> rfl
  have inUse : (resetBlocks s ctl rotation).leftOut k = false := by
    have bare : (resetBlocks s ctl rotation).ctl.config = none := config
    simp [State.leftOut, bare]
  rw [chan, inUse]
  constructor <;> decide

/-- An acceptance takes mode and flag from each channel that it leaves out, and leaves the fitted ones (R137). -/
theorem acceptConfig_consistent {s : State} (bare : s.ctl.config = none) (consistent : ChannelsConsistent s) (c : StationConfig) :
    ChannelsConsistent (acceptConfig s c) := by
  intro k
  have before : (s.chan k).Consistent false := by simpa [State.leftOut, bare] using consistent k
  have leftOut : (acceptConfig s c).leftOut k = !(quadGet c.pumps k).fitted := rfl
  rw [acceptConfig_chan, leftOut]
  cases (quadGet c.pumps k).fitted
  · exact unfitted_consistent before
  · exact before

theorem judgeImage_keepsConsistent {s : State} (due : s.ctl.step = .configLoad ∨ s.ctl.step = .configWait) (img : List Byte) :
    KeepsConsistent s (judgeImage s img) := fun awaits => by
  unfold judgeImage
  split
  · exact (ConsistencyKept.of_frame rfl rfl).chans
  · exact fun consistent => acceptConfig_consistent (awaits due) consistent _

theorem execSerialMemoryReadEnd_keepsConsistent (s : State) (dataIn : List Bool) :
    Leads (KeepsConsistent s) (exec (.serialMemoryReadEnd dataIn) s) := by
  by_cases step : s.ctl.step = .configLoad
  · have judged : ∀ img, KeepsConsistent s (judgeImage (imaged s img) img) := fun img =>
      (judgeImage_keepsConsistent (s := imaged s img) (.inl step) img).before rfl rfl rfl
    have stopped : ∀ u, ConsistencyKept u (imageJudged u) := fun u => by
      unfold imageJudged; split
      · exact .of_frame rfl rfl
      · exact .refl u
    exact ⟨_, serialMemoryReadEnd_eq s step dataIn, (judged _).after (stopped _)⟩
  · exact ⟨s, serialMemoryReadEnd_ignored step dataIn, .refl s⟩

theorem endClockstart_consistencyKept (s : State) (straps : Straps) : ConsistencyKept s (endClockstart s straps) := by
  unfold endClockstart enterConfigLoad
  dsimp only
  split <;> exact .of_frame rfl rfl

theorem handOver_consistencyKept (s : State) (x : PortState) (record : Option SelfTestRecord) :
    ConsistencyKept s (handOver s x record) := by
  unfold handOver
  refine ConsistencyKept.trans ?_ (enterJoining_consistencyKept _)
  exact .of_frame rfl rfl

/-! ## The maintenance port (chapter 11) -/

theorem respond_consistencyKept (s : State) (r : Response) : ConsistencyKept s (respond s r) := .of_frame rfl rfl

theorem doLeave_consistencyKept (s : State) : ConsistencyKept s (doLeave s) := by
  unfold doLeave; split
  · exact ConsistencyKept.trans (.of_frame (by simp) (by simp)) (respond_consistencyKept _ _)
  · exact respond_consistencyKept s _

theorem doRejoin_consistencyKept (s : State) : ConsistencyKept s (doRejoin s) := by
  unfold doRejoin; split
  · have listening : ∀ u, ConsistencyKept u (orderListen u) := fun u => by
      unfold orderListen; split
      · exact .of_frame (by simp) (by simp)
      · exact .refl u
    have cleared : ConsistencyKept s (s.setSched { s.sched with riverSide := none }) := .of_frame rfl rfl
    exact ((cleared.trans (listening _)).trans (enterJoining_consistencyKept _)).trans (respond_consistencyKept _ _)
  · exact respond_consistencyKept s _

theorem doLoadEnd_keepsConsistent (s : State) : KeepsConsistent s (doLoadEnd s) := by
  unfold doLoadEnd; split
  case isTrue => exact (respond_consistencyKept s _).keepsConsistent
  case isFalse waits =>
    have judged := judgeImage_keepsConsistent (.inr (not_not.1 waits))
    dsimp only
    split <;> exact (judged _).after (respond_consistencyKept _ _)

theorem execute_keepsConsistent (s : State) (r : Request) : KeepsConsistent s (execute s r) := by
  have answered : ∀ x, KeepsConsistent s (respond s x) := fun x => (respond_consistencyKept s x).keepsConsistent
  cases r with
  | status | line | cause => exact answered _
  | view n =>
    unfold execute doView; dsimp only
    split <;> exact answered _
  | pump k =>
    unfold execute doPump; dsimp only
    split <;> exact answered _
  | clearFaults => exact ((clearFaultLatches_consistencyKept s).trans (respond_consistencyKept _ _)).keepsConsistent
  | clearLine => exact ConsistencyKept.keepsConsistent (.of_frame rfl rfl)
  | leave => exact (doLeave_consistencyKept s).keepsConsistent
  | rejoin => exact (doRejoin_consistencyKept s).keepsConsistent
  | load offset bytes =>
    unfold execute doLoad; dsimp only
    repeat' split
    all_goals exact ConsistencyKept.keepsConsistent (.of_frame rfl rfl)
  | loadEnd => exact doLoadEnd_keepsConsistent s

theorem submitLine_keepsConsistent (s : State) (l : CompletedLine) : KeepsConsistent s (submitLine s l) := by
  unfold submitLine executeLine
  repeat' split
  · exact ConsistencyKept.keepsConsistent (.of_frame rfl rfl)
  · exact (respond_consistencyKept s _).keepsConsistent
  · exact execute_keepsConsistent s _

theorem submitRequest_keepsConsistent (s : State) (r : Request) :
    Leads (KeepsConsistent s) (.next (submitRequest s r)) := by
  refine ⟨_, rfl, ?_⟩
  unfold submitRequest; split
  · exact submitLine_keepsConsistent s _
  · exact .refl s

theorem completeLine_keepsConsistent (s : State) : KeepsConsistent s (completeLine s) := by
  unfold completeLine
  dsimp only
  split
  · exact ConsistencyKept.keepsConsistent (.of_frame rfl rfl)
  · exact (submitLine_keepsConsistent _ _).before rfl rfl rfl

theorem execCharacterReceived_keepsConsistent (s : State) (c : Byte) (stopLow : Bool) :
    Leads (KeepsConsistent s) (execCharacterReceived c stopLow s) := by
  obtain ⟨x, marked⟩ : ∃ x, (if stopLow then markBad s else s) = s.setMaint x := by
    split
    · exact ⟨_, rfl⟩
    · exact ⟨s.maint, rfl⟩
  have stored : ∀ y, KeepsConsistent s (s.setMaint y) := fun _ => ConsistencyKept.keepsConsistent (.of_frame rfl rfl)
  refine ⟨_, rfl, ?_⟩
  rw [marked]
  unfold appendChar
  dsimp only
  repeat' split
  · exact (completeLine_keepsConsistent (s.setMaint x)).before rfl rfl rfl
  · exact stored x
  · exact stored _
  · exact stored _
  · exact .refl s

theorem execResponseEnd_keepsConsistent (s : State) : Leads (KeepsConsistent s) (execResponseEnd s) := by
  refine ⟨_, rfl, ?_⟩
  unfold executeLine
  dsimp only
  repeat' split
  · exact ConsistencyKept.keepsConsistent (.of_frame rfl rfl)
  · exact (execute_keepsConsistent _ _).before rfl rfl rfl
  · exact ConsistencyKept.keepsConsistent (.of_frame rfl rfl)
  · exact .refl s

/-! ## Every command and every step -/

theorem exec_keepsConsistent (i : Instr) (s : State) : Leads (KeepsConsistent s) (exec i s) := by
  have clocked : ∀ x : Controller, x.config = s.ctl.config → ConsistencyKept s (s.setCtl x) := fun _ config =>
    .of_frame config rfl
  cases i with
  | powerOn | externalReset => exact ⟨_, rfl, fun _ _ => resetBlocks_consistent _ _ rfl⟩
  | brownOut =>
    refine ⟨_, rfl, ?_⟩
    split
    · exact .refl s
    · exact fun _ _ => resetBlocks_consistent _ _ rfl
  | resetRelease | powerUpDelayExpiry | brownOutEnd | conversionEnd input current | receiverSync | lineFaultTimerExpiry stuck
  | secondsTick | ageingTimerExpiry =>
    refine Leads.keepsConsistent ⟨_, rfl, ?_⟩
    dsimp only
    repeat' split
    all_goals exact .of_frame rfl rfl
  | driveFailure f | stuckLine f | reportTimerExpiry | clockMonitorFallback =>
    refine Leads.keepsConsistent ⟨_, rfl, ?_⟩
    split
    · exact .of_frame (by simp) (by simp)
    · exact .refl s
  | listenTimerExpiry | spacingTimerExpiry | allocationTimerExpiry | slotStart idle dominant | contentionLoss
  | transmissionComplete =>
    refine Leads.keepsConsistent ⟨_, rfl, ?_⟩
    dsimp only
    repeat' split
    all_goals exact .of_frame (by simp) (by simp)
  | crystalStart straps =>
    refine Leads.keepsConsistent ⟨_, rfl, ?_⟩
    split
    · exact (clocked _ (by rfl)).trans (endClockstart_consistencyKept _ straps)
    · exact .refl s
  | clockStartWindowExpiry straps =>
    refine Leads.keepsConsistent ⟨_, rfl, ?_⟩
    split
    · exact ((clocked _ (by rfl)).trans (.of_frame (by simp) (by simp))).trans (endClockstart_consistencyKept _ straps)
    · exact .refl s
  | selftestEnd bytes =>
    refine Leads.keepsConsistent ⟨_, rfl, ?_⟩
    split
    · split
      · exact .refl s
      · exact handOver_consistencyKept s _ _
      · exact handOver_consistencyKept s _ _
    · exact .refl s
  | serialMemoryReadEnd dataIn => exact execSerialMemoryReadEnd_keepsConsistent s dataIn
  | scanTimerExpiry contacts => exact (execScanTimerExpiry_consistencyKept s contacts).keepsConsistent
  | scanCompletion => exact (execScanCompletion_consistencyKept s).keepsConsistent
  | faultResetSample active => exact (execFaultResetSample_consistencyKept s active).keepsConsistent
  | stageReportReceived f | startNoticeReceived f | quitNoticeReceived f | badFrame f =>
    exact ⟨_, rfl, (receiveFrame_consistencyKept s f).keepsConsistent⟩
  | allocationCompletion => exact (execAllocationCompletion_consistencyKept s).keepsConsistent
  | holdOffExpiry => exact (execHoldOffExpiry_consistencyKept s).keepsConsistent
  | slewTimerExpiry => exact (execSlewTimerExpiry_consistencyKept s).keepsConsistent
  | startWindowExpiry k => exact (execStartWindowExpiry_consistencyKept s k).keepsConsistent
  | restTimerExpiry k => exact (execRestTimerExpiry_consistencyKept s k).keepsConsistent
  | characterReceived c stopLow => exact execCharacterReceived_keepsConsistent s c stopLow
  | responseEnd => exact execResponseEnd_keepsConsistent s
  | status | view n | pump k | line | cause | clearFaults | clearLine | leave | rejoin | load offset bytes | loadEnd =>
    exact submitRequest_keepsConsistent s _

theorem step_keepsConsistent {s t : State} (next : step s = .next t) : KeepsConsistent s t := by
  unfold step at next
  split at next
  · cases next; exact .refl s
  case h_2 c rest _ =>
    obtain ⟨u, run, kept⟩ := exec_keepsConsistent c { s with pending := rest }
    obtain rfl : u = t := Host.Outcome.next.inj (run.symm.trans next)
    exact kept.before rfl rfl rfl

/-- Settles O56: every move of a channel gives it the outputs and timers of its new state and leaves its selector
(`Channel.Consistent.entered`), a sample forms mode and flag together (`takeSample_consistent`), and an acceptance, before which no
channel is left out, takes both from the channels that it leaves out (`acceptConfig_consistent`). -/
theorem everyStepKeepsTheChannelsConsistent : Obligations.EveryStepKeepsTheChannelsConsistent :=
  fun _ _ sequence consistent next => step_keepsConsistent next sequence.awaitsImage consistent

end Sys2Proof.Machine
end

section
/-! PROOFS. The image buffer over the maintenance port: LOAD and LOAD END (sections 10.5, 10.6, 11.1 and 11.2). -/
namespace Sys2Proof.Machine

/-! ## The bytes written (R179) -/

/-- Bytes written within the buffer leave its length. -/
theorem writeBytes_length {img l : List Byte} {o : Nat} (fits : o + l.length ≤ img.length) :
    (writeBytes img o l).length = img.length := by
  simp only [writeBytes, List.length_append, List.length_take, List.length_drop]
  omega

/-- The bytes written stand at their offset, and every other place of the buffer is as it was. -/
theorem writeBytes_getElem? {img l : List Byte} {o : Nat} (fits : o + l.length ≤ img.length) (i : Nat) :
    (writeBytes img o l)[i]? = if o ≤ i ∧ i < o + l.length then l[i - o]? else img[i]? := by
  have taken : (img.take o).length = o := by rw [List.length_take]; omega
  rw [writeBytes, List.append_assoc, List.getElem?_append, taken]
  split
  case isTrue before =>
    rw [List.getElem?_take_of_lt before, if_neg (by omega)]
  case isFalse reached =>
    rw [List.getElem?_append]
    split
    case isTrue within => rw [if_pos (by omega)]
    case isFalse past =>
      rw [if_neg (by omega), List.getElem?_drop]
      congr 1
      omega

/-! ## LOAD (R185, R188) -/

theorem loadCountOk_iff (n : Nat) : loadCountOk n = true ↔ 1 ≤ n ∧ n ≤ 16 := by simp [loadCountOk]

section
variable {s : State} {o : Nat} {l : List Byte}

theorem doLoad_miscounted (count : ¬ (1 ≤ l.length ∧ l.length ≤ 16)) : doLoad s o l = respondErr s .errSyntax :=
  if_pos (by rw [Bool.not_eq_true', ← Bool.not_eq_true, loadCountOk_iff]; exact count)

variable (count : 1 ≤ l.length ∧ l.length ≤ 16)
include count

theorem doLoad_elsewhere (step : s.ctl.step ≠ .configWait) : doLoad s o l = respondErr s .errState := by
  simp [doLoad, (loadCountOk_iff _).2 count, step]

theorem doLoad_beyond (step : s.ctl.step = .configWait) (beyond : 128 < o + l.length) :
    doLoad s o l = respondErr s .errRange := by
  simp [doLoad, (loadCountOk_iff _).2 count, step, beyond]

theorem doLoad_written {img : List Byte} (step : s.ctl.step = .configWait) (image : s.ctl.image = some img)
    (fits : o + l.length ≤ 128) : doLoad s o l = respond (imaged s (writeBytes img o l)) .ok := by
  have within : ¬ (127 < o ∨ 128 < o + l.length) := by omega
  simp [doLoad, (loadCountOk_iff _).2 count, step, image, within, imaged]

end

/-! ## LOAD END (R179, R188) -/

theorem doLoadEnd_elsewhere {s : State} (step : s.ctl.step ≠ .configWait) : doLoadEnd s = respondErr s .errState := if_pos step

section
variable {s : State} {img : List Byte} (step : s.ctl.step = .configWait) (image : s.ctl.image = some img)
include step image

theorem doLoadEnd_refused {r : FailureReason} (fails : validate (s.ctl.station.getD 0) img = some r) :
    doLoadEnd s = respond (s.setCtl { s.ctl with reason := some r }) (.err .errState (some r)) := by
  have judged : judgeImage s img = s.setCtl { s.ctl with reason := some r } := by simp [judgeImage, fails]
  simp [doLoadEnd, step, image, judged]

/-- An accepted image takes the part out of CONFIG_WAIT (R181). -/
theorem doLoadEnd_accepted (passes : validate (s.ctl.station.getD 0) img = none) :
    doLoadEnd s = respond (acceptConfig s (configOf img)) .ok := by
  have judged : judgeImage s img = acceptConfig s (configOf img) := by simp [judgeImage, passes]
  have past : (acceptConfig s (configOf img)).ctl.step = .selftest := rfl
  simp [doLoadEnd, step, image, judged, past]

end

/-- The response that is being sent is no part of an acceptance. -/
theorem Accepted.responded {s t : State} {c : StationConfig} (h : Accepted s t c) (r : Response) :
    Accepted s (respond t r) c :=
  ⟨h.ctl, h.port, h.ageing, h.own, h.peers, h.allow, h.alloc, h.disp, h.chans, h.rest⟩

/-- Settles O53: LOAD by count, step and range (`doLoad_written`, `writeBytes_getElem?`), LOAD END by the judgement of the image. -/
theorem loadWritesTheImageAndLoadEndJudgesIt : Obligations.LoadWritesTheImageAndLoadEndJudgesIt := by
  intro s opened held silent answered
  have load : ∀ o l, exec (.load o l) s = .next (doLoad s o l) := fun o l =>
    congrArg Host.Outcome.next (submitRequest_idle opened held silent _)
  have loadEnd : exec .loadEnd s = .next (doLoadEnd s) :=
    congrArg Host.Outcome.next (submitRequest_idle opened held silent _)
  simp only [load, loadEnd]
  refine ⟨fun o l one most =>
      ⟨fun step => ?elsewhere, fun step beyond => ?beyond, fun img step image length fits => ?written⟩,
    fun o l count => ?miscounted, fun step => ?endElsewhere, fun img step image records =>
      ⟨fun r fails => ?refused, fun passes => ?accepted⟩⟩
  case elsewhere => rw [doLoad_elsewhere ⟨one, most⟩ step]; rfl
  case beyond => rw [doLoad_beyond ⟨one, most⟩ step beyond]; rfl
  case written =>
    rw [← length] at fits
    refine ⟨writeBytes img o l, ?_, (writeBytes_length fits).trans length, writeBytes_getElem? fits⟩
    rw [doLoad_written ⟨one, most⟩ step image (length ▸ fits)]; rfl
  case miscounted => rw [doLoad_miscounted (by omega)]; rfl
  case endElsewhere => rw [doLoadEnd_elsewhere step]; rfl
  case refused => rw [doLoadEnd_refused step image fails]; rfl
  case accepted =>
    refine ⟨_, congrArg Host.Outcome.next (doLoadEnd_accepted step image passes), by simp [respond], ?_⟩
    exact (acceptConfig_accepted s _ records (validate_station _ _ passes)).responded .ok

end Sys2Proof.Machine
end

section
/-! PROOFS. The step, the queue of commands, the resets and POWERUP, and the configuration image (chapter 10). -/
namespace Sys2Proof.Machine

/-! ## Steps (O1) -/

/-- Settles O1: `step` matches on the queue. -/
theorem stepRunsTheFrontCommand : Obligations.StepRunsTheFrontCommand := by
  constructor
  · intro c rest s queued
    simp only [step, queued]
  · intro s idle
    simp only [step, idle]

/-! ## The resets (O4) -/

/-- A held reset with nothing in transmission, no response and the controller in POWERUP drives every output inactive (R170). -/
theorem outputs_resetBlocks (s : State) (ctl : Controller) (rotation : Option (List Nat)) (held : ctl.resetHeld = true)
    (step : ctl.step = .powerup) :
    outputs (resetBlocks s ctl rotation)
      = ⟨⟨false, false, false, false⟩, ⟨0, 0, 0, 0⟩, false, .disabled, false, [], none⟩ := by
  have alarm : alarmOutput (resetBlocks s ctl rotation) = false := by simp [alarmOutput, resetBlocks, held]
  have selected : (resetBlocks s ctl rotation).ctl.step ≠ .configLoad := by simp [resetBlocks, step]
  rw [outputs, alarm, if_neg selected, beq_eq_false_iff_ne.2 selected]
  rfl

/-- Settles O4: each reset is a `resetBlocks` in POWERUP with the reset held, whose outputs are inactive
(`outputs_resetBlocks`). -/
theorem resetsRecordTheirCauseAndDriveTheOutputsInactive :
    Obligations.ResetsRecordTheirCauseAndDriveTheOutputsInactive := by
  intro s
  refine ⟨⟨_, rfl, outputs_resetBlocks _ _ _ rfl rfl, rfl⟩, fun supplied => ?brownOut,
    ⟨_, rfl, outputs_resetBlocks _ _ _ rfl rfl, rfl⟩⟩
  case brownOut =>
    simp only [exec, execBrownOut, supplied]
    exact ⟨_, rfl, outputs_resetBlocks _ _ _ rfl rfl, rfl⟩

/-! ## POWERUP (O5) -/

/-- Settles O5: each clause takes its branch of the release, of the delay's expiry or of the brown-out's end. -/
theorem powerUpWaitsForTheDelayAndTheRelease : Obligations.PowerUpWaitsForTheDelayAndTheRelease := by
  intro s
  refine ⟨fun held supplied waits => ?waits, fun held supplied ended => ?passes, fun held low => ?low,
    fun runs released powerup => ?expiry, fun runs held => ?heldExpiry, fun low => ?supplyBack⟩
  case waits => simp [exec, execResetRelease, held, supplied, waits, State.setCtl]
  case passes => simp [exec, execResetRelease, held, supplied, ended, enterClockstart, State.setCtl]
  case low => simp [exec, execResetRelease, low]
  case expiry => simp [exec, execPowerUpDelayExpiry, runs, released, powerup, enterClockstart, State.setCtl]
  case heldExpiry => simp [exec, execPowerUpDelayExpiry, runs, held, State.setCtl]
  case supplyBack => simp [exec, execBrownOutEnd, low, State.setCtl]

/-! ## Validation (O9) -/

/-- A reason that no check of a list names is not its result. -/
theorem firstFailure_named {l : List (Bool × FailureReason)} {r : FailureReason} (h : firstFailure l = some r) :
    r ∈ l.map Prod.snd := by
  induction l with
  | nil => cases h
  | cons check rest ih =>
    obtain ⟨ok, name⟩ := check
    cases ok with
    | false => simp [Option.some.inj h]
    | true => exact List.mem_cons_of_mem _ (ih h)

/-- The first check is the one that fails exactly when it does not hold, if no later one bears its reason. -/
theorem firstFailure_head_iff {ok : Bool} {r : FailureReason} {rest : List (Bool × FailureReason)}
    (once : r ∉ rest.map Prod.snd) : firstFailure ((ok, r) :: rest) = some r ↔ ¬ ok = true := by
  cases ok with
  | false => simp [firstFailure]
  | true => simpa [firstFailure] using fun later => once (firstFailure_named later)

/-- Another reason is the result exactly when the first check holds and the rest gives it. -/
theorem firstFailure_later_iff {ok : Bool} {r first : FailureReason} {rest : List (Bool × FailureReason)}
    (other : first ≠ r) : firstFailure ((ok, first) :: rest) = some r ↔ ok = true ∧ firstFailure rest = some r := by
  cases ok <;> simp [firstFailure, other]

/-- The pump blocks stand at the offsets 40, 60, 80 and 100 (R190). -/
theorem exists_blockOffset (p : Nat → Prop) : (∃ k, p (blockOffset k)) ↔ ∃ o ∈ [40, 60, 80, 100], p o := by
  constructor
  · rintro ⟨k, h⟩
    exact ⟨_, by cases k <;> simp [blockOffset], h⟩
  · simp only [List.mem_cons, List.not_mem_nil, or_false]
    rintro ⟨o, rfl | rfl | rfl | rfl, h⟩
    exacts [⟨.p1, h⟩, ⟨.p2, h⟩, ⟨.p3, h⟩, ⟨.p4, h⟩]

/-- The four pump checks of a block (R177). -/
theorem blockFitted_iff (img : List Byte) (k : Chan) : blockFitted img k = true ↔
    u8At img (blockOffset k) ≠ 0 ∧ u16At img (blockOffset k + 3) < u16At img (blockOffset k + 5)
      ∧ u16At img (blockOffset k + 1) ≠ 0 ∧ u16At img (blockOffset k + 9) ≠ 0 := by
  simp [blockFitted, and_assoc]

/-- Settles O9: each check is brought to its proposition, and the reasons are all different (`firstFailure_head_iff`,
`firstFailure_later_iff`). -/
theorem validationNamesTheFirstFailingCheck : Obligations.ValidationNamesTheFirstFailingCheck := by
  intro strap img
  dsimp only
  have station : (1 ≤ strap && strap ≤ Config.stations && strap == u8At img 1) = true ↔
      1 ≤ strap ∧ strap ≤ 24 ∧ strap = u8At img 1 := by
    simp only [Bool.and_eq_true, decide_eq_true_eq, beq_iff_eq, and_assoc]
    rfl
  have scaling : (s16At img 27 < s16At img 29 && s16At img 31 < s16At img 33 && s16At img 35 < s16At img 37) = true ↔
      s16At img 27 < s16At img 29 ∧ s16At img 31 < s16At img 33 ∧ s16At img 35 < s16At img 37 := by
    simp [and_assoc]
  have pump : anyChan (blockFitted img) = true ↔ ∃ o ∈ [40, 60, 80, 100], u8At img o ≠ 0
      ∧ u16At img (o + 3) < u16At img (o + 5) ∧ u16At img (o + 1) ≠ 0 ∧ u16At img (o + 9) ≠ 0 := by
    rw [anyChan_iff, ← exists_blockOffset]
    exact exists_congr (blockFitted_iff img)
  rw [← station, ← scaling, ← pump, ← beq_iff_eq (a := (crc16 (img.take 126)).toNat), ← beq_iff_eq (a := u8At img 0),
    ← decide_eq_true_iff (p := s16At img 6 < s16At img 8), ← decide_eq_true_iff (p := s16At img 14 < s16At img 16)]
  refine ⟨?_, ?_, ?_, ?_, ?_, ?_, ?_, ?none⟩
  case none => simp [validate, firstFailure_none_iff]
  all_goals simp [validate, firstFailure_later_iff, firstFailure_head_iff]

/-! ## The accepted configuration (O10) -/

/-- A 16-bit figure of the image as it stands there (R190). -/
theorem be16_u16At {l : List Byte} {i : Nat} (inside : i + 1 < l.length) : be16 (u16At l i) = (l.drop i).take 2 := by
  have low := l[i].isLt
  have next := l[i + 1].isLt
  have bytes : (l.drop i).take 2 = [l[i], l[i + 1]] := by
    rw [List.drop_eq_getElem_cons (by omega), List.drop_eq_getElem_cons inside]
    rfl
  have figure : u16At l i = l[i].toNat * 256 + l[i + 1].toNat := by
    simp [u16At, u8At, inside, Nat.lt_of_succ_lt inside]
  rw [bytes, figure, be16]
  congr 1
  · apply BitVec.eq_of_toNat_eq; simp; omega
  · congr 1; apply BitVec.eq_of_toNat_eq; simp; omega

theorem be16s_s16At {l : List Byte} {i : Nat} (inside : i + 1 < l.length) : be16s (s16At l i) = (l.drop i).take 2 := by
  have small := u16At_lt l i
  have figure : (s16At l i % 65536).toNat = u16At l i := by
    unfold s16At; split <;> omega
  rw [be16s, figure, be16_u16At inside]

/-- The clamps leave image bytes 4 to 11 of the line parameter block as stored (R180, R181). -/
theorem lineBlock_configOf {img : List Byte} (whole : 12 ≤ img.length) :
    lineBlock (configOf img) = [BitVec.ofNat 8 (configOf img).bitRate, BitVec.ofNat 8 (configOf img).period]
      ++ (img.drop 4).take 8 ++ [BitVec.ofNat 8 (configOf img).tHold, BitVec.ofNat 8 (configOf img).tStart] := by
  have stored : be16 (configOf img).aFull ++ be16s (configOf img).sFree ++ be16s (configOf img).sClose
      ++ be16 (configOf img).pFeed = (img.drop 4).take 8 := by
    have aFull := be16_u16At (l := img) (i := 4) (by omega)
    have sFree := be16s_s16At (l := img) (i := 6) (by omega)
    have sClose := be16s_s16At (l := img) (i := 8) (by omega)
    have pFeed := be16_u16At (l := img) (i := 10) (by omega)
    calc _ = (img.drop 4).take 2 ++ (img.drop 6).take 2 ++ (img.drop 8).take 2 ++ (img.drop 10).take 2 := by
          rw [← aFull, ← sFree, ← sClose, ← pFeed]; rfl
      _ = (img.drop 4).take 8 := by
          rw [List.take_add (i := 6) (j := 2), List.take_add (i := 4) (j := 2), List.take_add (i := 2) (j := 2)]
          simp
  simp only [lineBlock, ← stored, List.append_assoc]

theorem clampPeriod_eq (bitRate code : Nat) :
    clampPeriod bitRate code = (let p := if 3 < code then 3 else code; if bitRate = 0 ∧ p = 0 then 1 else p) := by
  have least : min code 3 = if 3 < code then 3 else code := by split <;> omega
  rw [clampPeriod, least]

/-- With the 9600 bit/s rule the report period is at least 2 s (R180, R48). -/
theorem two_le_reportPeriod {c : StationConfig} (positive : c.period ≠ 0) : 2 ≤ reportPeriod c :=
  Nat.le_self_pow positive 2

theorem clampPeriod_ne_zero (code : Nat) : clampPeriod 0 code ≠ 0 := by
  unfold clampPeriod; dsimp only; split <;> omega

theorem blockOffset_eq (k : Chan) : blockOffset k = 20 + 20 * chanNum k := by cases k <;> rfl

theorem clampPump_fitted (p : PumpBlock) : (clampPump p).fitted = p.fitted := by
  unfold clampPump; split <;> rfl

/-- Settles O10: the figures are read off but for the period, the pump blocks (`blockFitted_iff`, `clampPump`) and the digest
(`lineBlock_configOf`). -/
theorem clampsBringTheFiguresIntoRange : Obligations.ClampsBringTheFiguresIntoRange := by
  intro img
  refine ⟨rfl, clampPeriod_eq _ _, fun slow => ?slow, rfl, rfl, rfl, rfl, rfl, rfl, fun k => ?fitted, fun k fits => ?figures,
    rfl, rfl, rfl, rfl, rfl, rfl, rfl, rfl, rfl, rfl, rfl, fun whole => ?digest⟩
  case slow =>
    have period : (configOf img).period = clampPeriod (configOf img).bitRate (u8At img 3) := rfl
    exact two_le_reportPeriod (by rw [period, slow]; exact clampPeriod_ne_zero _)
  case fitted =>
    rw [configOf_pump, clampPump_fitted, ← blockOffset_eq]
    exact blockFitted_iff img k
  case figures =>
    rw [configOf_pump, clampPump_fitted] at fits
    rw [configOf_pump, clampPump, if_pos fits, ← blockOffset_eq]
    exact ⟨rfl, rfl, rfl, rfl, rfl, rfl, rfl, rfl, rfl, rfl⟩
  case digest =>
    rw [← lineBlock_configOf (by omega)]
    rfl

end Sys2Proof.Machine
end

section
/-! PROOFS. Every command answers a next state, with the queue of commands as it was (log entries 4 and 25). -/
namespace Sys2Proof.Machine

/-! ## What the parts of the commands leave of the queue -/

@[simp] theorem enterClockstart_pending (s : State) : (enterClockstart s).pending = s.pending := rfl

@[simp] theorem endClockstart_pending (s : State) (straps : Straps) : (endClockstart s straps).pending = s.pending := by
  rw [endClockstart, enterConfigLoad_eq]; rfl

@[simp] theorem handOver_pending (s : State) (x : PortState) (record : Option SelfTestRecord) :
    (handOver s x record).pending = s.pending := by
  simp [handOver]

@[simp] theorem modeChange_pending (s : State) (k : Chan) : (modeChange s k).pending = s.pending := by
  have left : (leaveNotice s k).pending = s.pending := by
    unfold leaveNotice; split <;> simp
  by_cases ignored : s.chanState k = none ∨ s.chanState k = some .fault
  · rw [modeChange_ignored s k ignored]
  · rcases modeChange_cases s k with same | same | ⟨c, -, same⟩ <;> simp [same, left]

@[simp] theorem scanJudged_pending (s : State) : (scanJudged s).pending = s.pending := by
  simp only [scanJudged, forChans]
  split <;> simp

@[simp] theorem beginFrame_pending (s : State) (f : Frame) : (beginFrame s f).pending = s.pending := by
  cases f <;> simp [beginFrame]

@[simp] theorem reportReturned_pending (s : State) (f : Frame) : (reportReturned s f).pending = s.pending := by
  cases f <;> simp [reportReturned]

@[simp] theorem stageCompleted_pending (s : State) (p : StagePayload) : (stageCompleted s p).pending = s.pending := rfl

@[simp] theorem orderActive_pending (s : State) : (orderActive s).pending = s.pending := by
  unfold orderActive; split <;> rfl

@[simp] theorem orderListen_pending (s : State) : (orderListen s).pending = s.pending := by
  unfold orderListen; split <;> simp

@[simp] theorem publishAllocation_pending (s : State) (x : Snapshot) : (publishAllocation s x).pending = s.pending := rfl

@[simp] theorem dispatchAct_pending (s : State) : (dispatchAct s).pending = s.pending := by simp [dispatchAct]

@[simp] theorem imageJudged_pending (s : State) : (imageJudged s).pending = s.pending := by
  unfold imageJudged; split <;> rfl

/-! ## Requests and completed lines -/

@[simp] theorem respond_pending (s : State) (r : Response) : (respond s r).pending = s.pending := rfl

@[simp] theorem respondErr_pending (s : State) (e : ErrorCode) : (respondErr s e).pending = s.pending := rfl

@[simp] theorem execute_pending (s : State) (r : Request) : (execute s r).pending = s.pending := by
  cases r with
  | status | line | cause | clearLine => rfl
  | clearFaults => simp [execute]
  | view n => simp only [execute, doView]; split <;> rfl
  | pump k => simp only [execute, doPump]; split <;> rfl
  | leave => simp only [execute, doLeave]; split <;> simp
  | rejoin => simp only [execute, doRejoin]; split <;> simp
  | load offset bytes =>
    simp only [execute, doLoad]; repeat' split
    all_goals rfl
  | loadEnd =>
    simp only [execute, doLoadEnd]; repeat' split
    all_goals simp

@[simp] theorem executeLine_pending (s : State) (l : CompletedLine) : (executeLine s l).pending = s.pending := by
  cases l <;> simp [executeLine]

@[simp] theorem submitLine_pending (s : State) (l : CompletedLine) : (submitLine s l).pending = s.pending := by
  unfold submitLine; split <;> simp

@[simp] theorem submitRequest_pending (s : State) (r : Request) : (submitRequest s r).pending = s.pending := by
  unfold submitRequest; split <;> simp

@[simp] theorem markBad_pending (s : State) : (markBad s).pending = s.pending := rfl

@[simp] theorem appendChar_pending (s : State) (c : Byte) : (appendChar s c).pending = s.pending := by
  unfold appendChar; split <;> simp

@[simp] theorem completeLine_pending (s : State) : (completeLine s).pending = s.pending := by
  simp only [completeLine]; split <;> simp

/-! ## Every command (O2) -/

/-- The answer is a next state with the queue of `s`. -/
abbrev KeepsQueue (s : State) (o : Host.Outcome State Fault Refusal) : Prop := Leads (fun t => t.pending = s.pending) o

theorem execSerialMemoryReadEnd_keepsQueue (s : State) (dataIn : List Bool) :
    KeepsQueue s (exec (.serialMemoryReadEnd dataIn) s) := by
  by_cases step : s.ctl.step = .configLoad
  · exact ⟨_, serialMemoryReadEnd_eq s step dataIn, by simp [imaged]⟩
  · exact ⟨s, serialMemoryReadEnd_ignored step dataIn, rfl⟩

theorem execSelftestEnd_keepsQueue (s : State) (bytes : List RxByte) : KeepsQueue s (execSelftestEnd bytes s) := by
  refine ⟨_, rfl, ?_⟩
  repeat' split
  all_goals simp

theorem execScanTimerExpiry_keepsQueue (s : State) (contacts : Quad Contacts) :
    KeepsQueue s (execScanTimerExpiry contacts s) := by
  refine ⟨_, rfl, ?_⟩
  simp only [latchesArrive_frame, forChans]
  repeat' split
  all_goals simp

theorem execScanCompletion_keepsQueue (s : State) : KeepsQueue s (execScanCompletion s) := by
  by_cases due : s.acq.scan = some 7
  case neg => exact ⟨s, congrArg Host.Outcome.next (if_neg due), rfl⟩
  case pos =>
    cases config : s.ctl.config with
    | none => exact ⟨_, scanCompletion_bare s due config, by simp⟩
    | some c => exact ⟨_, scanCompletion_with s c due config, by simp⟩

/-- Each command by its own rule: an event that cannot arise leaves the state, any other runs parts that leave the queue. -/
theorem exec_keepsQueue (c : Instr) (s : State) : KeepsQueue s (exec c s) := by
  cases c with
  | powerOn | externalReset => exact ⟨_, rfl, rfl⟩
  | brownOut =>
    refine ⟨_, rfl, ?_⟩
    split <;> rfl
  | serialMemoryReadEnd dataIn => exact execSerialMemoryReadEnd_keepsQueue s dataIn
  | selftestEnd bytes => exact execSelftestEnd_keepsQueue s bytes
  | scanTimerExpiry contacts => exact execScanTimerExpiry_keepsQueue s contacts
  | scanCompletion => exact execScanCompletion_keepsQueue s
  | conversionEnd input current =>
    refine ⟨_, rfl, ?_⟩
    cases input <;> (dsimp only; split <;> rfl)
  | resetRelease | powerUpDelayExpiry | brownOutEnd | crystalStart straps | clockStartWindowExpiry straps
  | clockMonitorFallback | faultResetSample active | receiverSync | slotStart idle dominant | contentionLoss | driveFailure f
  | stuckLine f | lineFaultTimerExpiry stuck | transmissionComplete | secondsTick | listenTimerExpiry | reportTimerExpiry
  | spacingTimerExpiry | ageingTimerExpiry | allocationTimerExpiry | allocationCompletion | holdOffExpiry
  | startWindowExpiry k | restTimerExpiry k | characterReceived c stopLow | responseEnd =>
    refine ⟨_, rfl, ?_⟩
    dsimp only
    repeat' split
    all_goals simp
  | slewTimerExpiry =>
    refine ⟨_, rfl, ?_⟩
    simp only [latchesArrive_frame, forChans]
    split <;> simp
  | stageReportReceived f | startNoticeReceived f | quitNoticeReceived f | badFrame f =>
    exact ⟨_, rfl, by simp⟩
  | status | view n | pump k | line | cause | clearFaults | clearLine | leave | rejoin | load offset bytes | loadEnd =>
    exact ⟨_, rfl, submitRequest_pending s _⟩

/-- Settles O2: no command touches the queue (`exec_keepsQueue`). -/
theorem everyCommandCompletesAndKeepsTheQueue : Obligations.EveryCommandCompletesAndKeepsTheQueue :=
  exec_keepsQueue

end Sys2Proof.Machine
end

section
/-! PROOFS. The maintenance port's lines: the words of a line and the requests they spell, the characters that fill the
buffer, and what becomes of a complete line during a response and at its end (sections 11.1 and 11.2). -/
namespace Sys2Proof.Machine

/-! ## Words (R185) -/

/-- A space ends the word being read, and the rest of the line is split afresh. -/
theorem splitWords_append_space (w a b : List Byte) :
    splitWords w (a ++ 0x20#8 :: b) = splitWords w a ++ splitWords [] b := by
  induction a generalizing w with
  | nil => by_cases empty : w = [] <;> simp [splitWords, charSpace, empty]
  | cons c a ih =>
    by_cases space : c = charSpace
    · by_cases empty : w = [] <;> simp [splitWords, space, empty, ih]
    · simp [splitWords, space, ih]

/-- Characters other than spaces lengthen the word being read. -/
theorem splitWords_word (w l : List Byte) (wordlike : 0x20#8 ∉ l) (nonempty : w ++ l ≠ []) :
    splitWords w l = [w ++ l] := by
  induction l generalizing w with
  | nil => simp_all [splitWords]
  | cons c l ih =>
    obtain ⟨notSpace, rest⟩ := not_or.1 (List.mem_cons.not.1 wordlike)
    rw [splitWords, if_neg (show c ≠ charSpace from Ne.symm notSpace), ih (w ++ [c]) rest (by simp), List.append_assoc]
    rfl

/-! ## Numbers and data bytes (R185) -/

theorem decDigit_eq_some {c : Byte} {d : Nat} :
    decDigit c = some d ↔ (0x30 ≤ c.toNat ∧ c.toNat ≤ 0x39) ∧ c.toNat - 0x30 = d := by
  simp [decDigit]

theorem readDecFrom_eq_some {l : List Byte} {a n : Nat} :
    readDecFrom a l = some n ↔
      (∀ x ∈ l, 0x30 ≤ x.toNat ∧ x.toNat ≤ 0x39) ∧ n = l.foldl (fun a x => 10 * a + (x.toNat - 0x30)) a := by
  induction l generalizing a with
  | nil => simp [readDecFrom, eq_comm]
  | cons c l ih =>
    rw [readDecFrom, List.forall_mem_cons, List.foldl_cons]
    cases digit : decDigit c with
    | some d =>
      obtain ⟨range, rfl⟩ := decDigit_eq_some.1 digit
      simp only [ih, range, and_self, true_and]
    | none =>
      have notDigit : ¬ (0x30 ≤ c.toNat ∧ c.toNat ≤ 0x39) := fun range => by
        rw [decDigit_eq_some.2 ⟨range, rfl⟩] at digit
        cases digit
      simp [notDigit]

theorem readDec_eq_some {d : List Byte} {n : Nat} : readDec d = some n ↔ SpellsNumber d n := by
  cases d with
  | nil => simp [readDec, SpellsNumber]
  | cons c d => simp only [readDec, readDecFrom_eq_some, SpellsNumber, ne_eq, reduceCtorEq, not_false_eq_true, true_and]

theorem hexDigit_eq_some {c : Byte} {n : Nat} : hexDigit c = some n ↔ SpellsHexDigit c n := by
  unfold hexDigit SpellsHexDigit
  split
  case h_1 d digit =>
    obtain ⟨range, rfl⟩ := decDigit_eq_some.1 digit
    simp only [Option.some.injEq]
    omega
  case h_2 noDigit =>
    simp only [decDigit, ite_eq_right_iff, reduceCtorEq, imp_false] at noDigit
    simp only [Option.ite_none_right_eq_some, Option.some.injEq]
    omega

theorem SpellsHexDigit.lt {x : Byte} {n : Nat} (h : SpellsHexDigit x n) : n < 16 := by
  unfold SpellsHexDigit at h
  omega

theorem readHexByte_eq_some {w : List Byte} {b : Byte} : readHexByte w = some b ↔ SpellsByte w b := by
  constructor
  · intro read
    unfold readHexByte at read
    split at read
    case h_2 => cases read
    case h_1 x y =>
      split at read
      case h_2 => cases read
      case h_1 i j high low =>
        obtain rfl := Option.some.inj read
        have highSpelt := hexDigit_eq_some.1 high
        have lowSpelt := hexDigit_eq_some.1 low
        have := highSpelt.lt
        have := lowSpelt.lt
        exact ⟨x, y, i, j, rfl, highSpelt, lowSpelt, by rw [BitVec.toNat_ofNat]; omega⟩
  · rintro ⟨x, y, i, j, rfl, high, low, value⟩
    simp only [readHexByte, hexDigit_eq_some.2 high, hexDigit_eq_some.2 low, ← value, BitVec.ofNat_toNat,
      BitVec.setWidth_eq]

theorem readHexBytes_eq_some {ds : List (List Byte)} {l : List Byte} :
    readHexBytes ds = some l ↔ List.Forall₂ SpellsByte ds l := by
  induction ds generalizing l with
  | nil => simp [readHexBytes, eq_comm]
  | cons w ds ih =>
    rw [List.forall₂_cons_left_iff, readHexBytes]
    constructor
    · intro read
      split at read
      case h_1 b bytes first rest => exact ⟨b, bytes, readHexByte_eq_some.1 first, ih.1 rest, (Option.some.inj read).symm⟩
      case h_2 => cases read
    · rintro ⟨b, bytes, first, rest, rfl⟩
      rw [readHexByte_eq_some.2 first, ih.2 rest]

/-! ## Requests (R185 to R188) -/

/-- A LOAD is read exactly when its arguments are a number and one to sixteen data bytes (R188). -/
theorem readLoad_eq_some {d : List Byte} {ds : List (List Byte)} {r : Request} :
    readLoad d ds = some r ↔
      ∃ o l, r = .load o l ∧ SpellsNumber d o ∧ 1 ≤ l.length ∧ l.length ≤ 16 ∧ List.Forall₂ SpellsByte ds l := by
  constructor
  · intro read
    unfold readLoad at read
    split at read
    case h_2 => cases read
    case h_1 o l offset data =>
      obtain ⟨count, loaded⟩ := Option.ite_none_right_eq_some.1 read
      obtain ⟨least, most⟩ : 1 ≤ l.length ∧ l.length ≤ 16 := by simpa [loadCountOk] using count
      exact ⟨o, l, (Option.some.inj loaded).symm, readDec_eq_some.1 offset, least, most, readHexBytes_eq_some.1 data⟩
  · rintro ⟨o, l, rfl, offset, least, most, data⟩
    simp [readLoad, readDec_eq_some.2 offset, readHexBytes_eq_some.2 data, loadCountOk, least, most]

/-- What is read is spelt: along the words in the order in which they are tried. -/
theorem spells_of_readRequest {ws : List (List Byte)} {r : Request} (read : readRequest ws = some r) : Spells ws r := by
  unfold readRequest at read
  split at read
  case h_1 w =>
    split_ifs at read
    all_goals
      cases read
      subst ‹w = _›
      rfl
  case h_2 w a =>
    split_ifs at read with view pump faults line loadEnd
    · obtain ⟨n, number, rfl⟩ := Option.map_eq_some_iff.1 read
      exact ⟨a, by rw [view], readDec_eq_some.1 number⟩
    · obtain ⟨k, number, rfl⟩ := Option.map_eq_some_iff.1 read
      exact ⟨a, by rw [pump], readDec_eq_some.1 number⟩
    all_goals
      cases read
      obtain ⟨rfl, rfl⟩ := ‹w = _ ∧ a = _›
      rfl
  case h_3 w o data _ =>
    obtain ⟨rfl, loaded⟩ := Option.ite_none_right_eq_some.1 read
    obtain ⟨n, l, rfl, spelt⟩ := readLoad_eq_some.1 loaded
    exact ⟨o, data, rfl, spelt⟩
  case h_4 => cases read

/-- What is spelt is read: a LOAD has at least three words, so that none is taken for a LOAD END. -/
theorem readRequest_of_spells {ws : List (List Byte)} {r : Request} (spelt : Spells ws r) : readRequest ws = some r := by
  cases r with
  | status | line | cause | leave | rejoin | clearFaults | clearLine | loadEnd =>
    subst spelt
    decide
  | view n =>
    obtain ⟨d, rfl, number⟩ := spelt
    rw [readRequest, if_pos rfl, readDec_eq_some.2 number, Option.map_some]
  | pump k =>
    obtain ⟨d, rfl, number⟩ := spelt
    rw [readRequest, if_neg (by decide), if_pos rfl, readDec_eq_some.2 number, Option.map_some]
  | load o l =>
    obtain ⟨d, ds, rfl, offset, least, most, data⟩ := spelt
    have loaded := readLoad_eq_some.2 ⟨o, l, rfl, offset, least, most, data⟩
    cases data with
    | nil => simp at least
    | cons first rest =>
      rw [readRequest, if_pos rfl, loaded]
      exact List.cons_ne_nil _ _

/-- The words of a line spell at most one request, and it is the one that is read. -/
theorem readRequest_eq_some {ws : List (List Byte)} {r : Request} : readRequest ws = some r ↔ Spells ws r :=
  ⟨spells_of_readRequest, readRequest_of_spells⟩

theorem readLine_eq_request {bad : Bool} {l : List Byte} {r : Request}
    (spelt : (if bad then none else readRequest (wordsOf l)) = some r) : readLine bad l = .request r := by
  cases bad with
  | true => cases spelt
  | false => rw [readLine, if_neg Bool.false_ne_true, show readRequest (wordsOf l) = some r from spelt]

theorem readLine_eq_syntaxError {bad : Bool} {l : List Byte}
    (unspelt : (if bad then none else readRequest (wordsOf l)) = none) : readLine bad l = .syntaxError := by
  cases bad with
  | true => rfl
  | false => rw [readLine, if_neg Bool.false_ne_true, show readRequest (wordsOf l) = none from unspelt]

/-! ## Complete lines and requests (R184) -/

/-- The line that `submitLine` keeps while a response is being sent (R184). -/
def lineHeld (s : State) (l : CompletedLine) : State := s.setMaint { s.maint with held := some l }

theorem lineTaken_response (s : State) : (lineTaken s).maint.response = s.maint.response := rfl

theorem submitLine_sending {s : State} (sending : s.maint.response.isSome = true) (l : CompletedLine) :
    submitLine s l = lineHeld s l := if_pos sending

theorem submitLine_silent {s : State} (silent : s.maint.response = none) (l : CompletedLine) :
    submitLine s l = executeLine s l := if_neg (by simp [silent])

/-- The port takes in characters and requests only while it is open and holds no line. -/
theorem takesIn_false {s : State} (deaf : s.portOpen = false ∨ s.maint.held.isSome = true) :
    (s.portOpen && s.maint.held.isNone) = false := by
  rcases deaf with closed | held
  · simp [closed]
  · simp [Option.isNone_eq_false_iff, held]

theorem submitRequest_sending {s : State} (opened : s.portOpen = true) (free : s.maint.held = none)
    (sending : s.maint.response.isSome = true) (r : Request) : submitRequest s r = lineHeld s (.request r) := by
  rw [submitRequest, if_pos (by simp [opened, free]), submitLine_sending sending]

theorem submitRequest_deaf {s : State} (deaf : s.portOpen = false ∨ s.maint.held.isSome = true) (r : Request) :
    submitRequest s r = s := if_neg (by simp [takesIn_false deaf])

/-- The row of the table that a request's whole line stands for (log entry 9). -/
def requestRow : Request → Instr
  | .status => .status
  | .view n => .view n
  | .pump k => .pump k
  | .line => .line
  | .cause => .cause
  | .clearFaults => .clearFaults
  | .clearLine => .clearLine
  | .leave => .leave
  | .rejoin => .rejoin
  | .load o l => .load o l
  | .loadEnd => .loadEnd

theorem exec_requestRow (r : Request) (s : State) : exec (requestRow r) s = .next (submitRequest s r) := by
  cases r <;> rfl

/-! ## The end of a response (R184) -/

theorem responseEnd_held {s : State} (sending : s.maint.response.isSome = true) {l : CompletedLine}
    (held : s.maint.held = some l) : exec .responseEnd s = .next (executeLine (responseDone s) l) := by
  simp only [exec, execResponseEnd, sending, held, if_true, responseDone]

theorem responseEnd_free {s : State} (sending : s.maint.response.isSome = true) (free : s.maint.held = none) :
    exec .responseEnd s = .next (s.setMaint { s.maint with response := none }) := by
  simp only [exec, execResponseEnd, sending, free, if_true]

theorem responseEnd_silent {s : State} (silent : s.maint.response = none) : exec .responseEnd s = .next s := by
  simp [exec, execResponseEnd, silent]

/-- Settles O50: every row submits its request (`exec_requestRow`), and the three things that the port does with a submitted
request are those of `submitRequest`. -/
theorem aLineThatArrivesDuringAResponseIsHeldToItsEnd : Obligations.ALineThatArrivesDuringAResponseIsHeldToItsEnd := by
  intro s n k o l
  refine ⟨fun x row => ?rows, responseEnd_free, fun sending => responseEnd_held sending,
    fun _ sending => responseEnd_held sending, responseEnd_silent⟩
  have submits : exec x.1 s = .next (submitRequest s x.2) := by
    have isRow : x.1 = requestRow x.2 := by
      revert x
      simp [requestRow]
    rw [isRow, exec_requestRow]
  rw [submits]
  exact ⟨fun opened free sending => congrArg _ (submitRequest_sending opened free sending x.2),
    fun opened free silent => congrArg _ (submitRequest_idle opened free silent x.2),
    fun deaf => congrArg _ (submitRequest_deaf deaf x.2)⟩

/-! ## Characters (R184) -/

theorem characterReceived_deaf {s : State} (deaf : s.portOpen = false ∨ s.maint.held.isSome = true) (c : Byte) (low : Bool) :
    exec (.characterReceived c low) s = .next s :=
  congrArg Host.Outcome.next (if_neg (by simp [takesIn_false deaf]))

section Receiving

variable {s : State} (opened : s.portOpen = true) (free : s.maint.held = none)
include opened free

/-- A character with a good stop bit that ends no line is stored or marks the line bad, whichever `appendChar` decides. -/
theorem characterReceived_good {c : Byte} (notCR : c ≠ 0x0D#8) (notLF : c ≠ 0x0A#8) :
    exec (.characterReceived c false) s = .next (appendChar s c) := by
  simp [exec, execCharacterReceived, opened, free, charCR, charLF, notCR, notLF]

theorem characterReceived_low {c : Byte} (notCR : c ≠ 0x0D#8) : exec (.characterReceived c true) s = .next (markBad s) := by
  simp [exec, execCharacterReceived, opened, free, charCR, notCR]

theorem characterReceived_lineFeed : exec (.characterReceived 0x0A#8 false) s = .next s := by
  simp [exec, execCharacterReceived, opened, free, charCR, charLF]

theorem characterReceived_return (low : Bool) :
    exec (.characterReceived 0x0D#8 low) s = .next (completeLine (if low then markBad s else s)) := by
  simp [exec, execCharacterReceived, opened, free, charCR]

/-- A CR after a line of spaces with no mark only empties the buffer. -/
theorem characterReceived_return_blank (blank : ∀ x ∈ s.maint.buffer, x = 0x20#8) {low : Bool}
    (good : (s.maint.badLine || low) = false) : exec (.characterReceived 0x0D#8 low) s = .next (lineTaken s) := by
  obtain ⟨unmarked, rfl⟩ := Bool.or_eq_false_iff.1 good
  rw [characterReceived_return opened free]
  have spaces : s.maint.buffer.all (· == charSpace) = true := by simpa [charSpace] using blank
  exact congrArg _ (if_pos (by simp [spaces, unmarked]))

/-- A CR after any other line completes it; a low stop bit of the CR itself marks the line too (log entry 20). -/
theorem characterReceived_return_filled (filled : ¬ ∀ x ∈ s.maint.buffer, x = 0x20#8) (low : Bool) :
    exec (.characterReceived 0x0D#8 low) s
      = .next (submitLine (lineTaken s) (readLine (s.maint.badLine || low) s.maint.buffer)) := by
  have notSpaces : s.maint.buffer.all (· == charSpace) = false := by simpa [charSpace] using filled
  rw [characterReceived_return opened free]
  cases low with
  | false => exact congrArg _ ((if_neg (by simp [notSpaces])).trans (by rw [Bool.or_false]; rfl))
  | true => exact congrArg _ ((if_neg (by simp [markBad, notSpaces])).trans (by rw [Bool.or_true]; rfl))

end Receiving

/-- Settles O49: the words by `splitWords_word` and `splitWords_append_space`, the requests by `readRequest_eq_some`, and each
character by its own rule. -/
theorem charactersFillTheLineUntilTheReturn : Obligations.CharactersFillTheLineUntilTheReturn := by
  refine ⟨⟨rfl, fun w nonempty wordlike => splitWords_word [] w wordlike nonempty, splitWords_append_space []⟩,
    fun ws r => readRequest_eq_some, fun c low s => ⟨fun opened free => ?_, fun deaf => characterReceived_deaf deaf c low⟩⟩
  refine ⟨?room, ?full, ?low, ?lineFeed, ?blank, ?unreadable, ?readable, ?sending⟩
  case room =>
    rintro notCR notLF rfl room
    exact (characterReceived_good opened free notCR notLF).trans (congrArg _ (if_pos room))
  case full =>
    rintro notCR notLF rfl full
    exact (characterReceived_good opened free notCR notLF).trans (congrArg _ (if_neg (Nat.not_lt.2 full)))
  case low =>
    rintro notCR rfl
    exact characterReceived_low opened free notCR
  case lineFeed =>
    rintro rfl rfl
    exact characterReceived_lineFeed opened free
  case blank =>
    rintro rfl blank good
    exact characterReceived_return_blank opened free blank good
  case unreadable =>
    rintro rfl filled silent spelt
    rw [characterReceived_return_filled opened free filled, readLine_eq_syntaxError spelt,
      submitLine_silent ((lineTaken_response s).trans silent)]
    rfl
  case readable =>
    rintro r rfl filled silent spelt
    rw [characterReceived_return_filled opened free filled, readLine_eq_request spelt,
      submitLine_silent ((lineTaken_response s).trans silent)]
    rfl
  case sending =>
    rintro rfl filled sending
    rw [characterReceived_return_filled opened free filled, submitLine_sending (by rwa [lineTaken_response])]
    dsimp only
    split
    · rw [readLine_eq_request ‹_›]
      rfl
    · rw [readLine_eq_syntaxError ‹_›]
      rfl

end Sys2Proof.Machine
end
